-- ==== Sys2Proof/Word.lean ====
section
/-! DEFINITION. The word types of the transmit block (spec/00_scope.md R8 to R10): the 32-bit queue word and counter, the
byte, and the fixed group of eight that a frame, a cipher block and a key are. -/

namespace Sys2Proof

/-- A queue word, a counter, an operand or a response: 32 bits (R8, R9, R80). -/
abbrev Word := BitVec 32

/-- One byte of a frame (R10). -/
abbrev Byte := BitVec 8

/-- Eight things numbered 0 to 7: the frame buffer (R25), a cipher block and the cipher key (R14). -/
structure Octets (α : Type) where
  b0 : α
  b1 : α
  b2 : α
  b3 : α
  b4 : α
  b5 : α
  b6 : α
  b7 : α
deriving DecidableEq, Repr, Inhabited

/-- The eight in order, number 0 first: the order of the wire (R56). -/
def Octets.toList {α : Type} (o : Octets α) : List α :=
  [o.b0, o.b1, o.b2, o.b3, o.b4, o.b5, o.b6, o.b7]

/-- Element number `i`. -/
def Octets.get {α : Type} (o : Octets α) (i : Fin 8) : α := o.toList[i]

/-- Apply a function to each of the eight. -/
def Octets.map {α β : Type} (f : α → β) (o : Octets α) : Octets β :=
  ⟨f o.b0, f o.b1, f o.b2, f o.b3, f o.b4, f o.b5, f o.b6, f o.b7⟩

/-- Combine two groups of eight place by place. -/
def Octets.zipWith {α β γ : Type} (f : α → β → γ) (p : Octets α) (q : Octets β) : Octets γ :=
  ⟨f p.b0 q.b0, f p.b1 q.b1, f p.b2 q.b2, f p.b3 q.b3, f p.b4 q.b4, f p.b5 q.b5, f p.b6 q.b6, f p.b7 q.b7⟩

/-- A frame or a cipher block whose eight bytes are all known. -/
abbrev Block := Octets Byte

/-- The exclusive-or of the eight bytes of a block (R147). -/
def Octets.xorAll (b : Block) : Byte :=
  b.b0 ^^^ b.b1 ^^^ b.b2 ^^^ b.b3 ^^^ b.b4 ^^^ b.b5 ^^^ b.b6 ^^^ b.b7

end Sys2Proof
end

