-- ==== Sys2Proof/Config.lean ====
section
/-! DEFINITION. The configuration of the block (spec/00_scope.md section 3, R7, R11 to R15): fixed for a run, changed by no
operation. The state carries it as plain data, the cipher's two functions included, so that a claim can range over every
configuration. The values that the spec leaves free stand here as constants without a body. -/

namespace Sys2Proof

/-- FREE VALUE. The response word of an operation that ends in a fault: R83 states none. -/
opaque Config.freeResponse : Nat → Word

/-- FREE VALUE. What a frame-buffer byte that nothing has written reads as (R37, item U6: "any value"). -/
opaque Config.freeByte : Nat → Byte

/-- `ENC_XOR(b, k)[i] = b[i] ^ k[i]`, the spec's stand-in cipher (41_frame_builder.md). It is its own inverse. -/
def encXor (b k : Block) : Block := b.zipWith (fun x y => x ^^^ y) k

/-- One value of a cipher function: what it gives for one block and one key. -/
structure CipherEntry where
  block : Block
  key : Block
  result : Block
deriving DecidableEq, Repr

/-- A total function of a block and a key, as plain data: the values it lists, and `ENC_XOR`'s wherever it lists none. Blocks
and keys are finitely many, so every function is such a list (`Laws/Cipher.lean`, DESIGN CHOICE, safe:
notes/assumptions/11.md). -/
abbrev CipherTable := List CipherEntry

/-- The function that a table stands for; the first entry for a block and key counts. -/
def CipherTable.apply : CipherTable → Block → Block → Block
  | [], b, k => encXor b k
  | e :: es, b, k => if e.block = b ∧ e.key = k then e.result else CipherTable.apply es b k

/-- The parameters of R7 and R11 to R15, as a platform writes them down: R206 says which of them are valid
(`Config.wellFormed`). -/
structure Config where
  /-- `C`, the queue capacity in words (R7). -/
  capacity : Nat
  /-- `START_BYTE` (R11). -/
  startByte : Nat
  /-- `LOCAL_ADDR` (R11). -/
  localAddr : Nat
  /-- `SERVER_ADDR` (R11). -/
  serverAddr : Nat
  /-- `PAYLOAD_LAYOUT`: place `i` holds `pi(i)` (R12, R92). -/
  payloadLayout : List Nat
  /-- `ENCRYPT` (R13). -/
  encrypt : Bool
  /-- `KEY` (R14). -/
  key : List Byte
  /-- `ENC` (R14). -/
  enc : CipherTable
  /-- `DEC` (R14). -/
  dec : CipherTable
  /-- `TRACE_ENABLED` (R15). -/
  traceEnabled : Bool
deriving DecidableEq, Repr

/-- The three permutations that R93 names. -/
def Config.layoutLE : List Nat := [0, 1, 2, 3]
def Config.layoutBE : List Nat := [3, 2, 1, 0]
def Config.layoutS8 : List Nat := [1, 0, 3, 2]

/-- The spec's test configuration TC1 (41_frame_builder.md). Its values are not the block's constants (decision D12); its
key and cipher, `ENC_XOR` both ways, are those of TC1E, unused while `encrypt` is false (R206). -/
def Config.tc1 : Config where
  capacity := 4
  startByte := 0xEB
  localAddr := 0x60
  serverAddr := 0x60
  payloadLayout := Config.layoutS8
  encrypt := false
  key := [0x01, 0x02, 0x03, 0x04, 0x05, 0x06, 0x07, 0x08]
  enc := []
  dec := []
  traceEnabled := true

/-- The spec's test configuration TC1E: TC1 with the stand-in cipher switched on. -/
def Config.tc1e : Config := { Config.tc1 with encrypt := true }

end Sys2Proof
end

