-- ==== Sys2Proof/Syntax.lean ====
section
/-! DEFINITION. What is issued to the block and what it answers with: the nine operations of spec/opcode_table.json, the
four agents that issue them, the command transaction, and the names of the fault codes, refusal reasons and logged events. -/

namespace Sys2Proof

/-- The operations of R2 and R82, one constructor for each row of spec/opcode_table.json. -/
inductive Instr where
  /-- PUSH: append one word to the queue (R110). -/
  | push (w : Word)
  /-- DEPTH: the number of words available to pop (R130). -/
  | depth
  /-- STATUS: read the activity flag (R179). -/
  | status
  /-- TXSTEP: the transmit step (R171). -/
  | txstep
  /-- TXDONE: the UART reports its register empty (R181). -/
  | txdone
  /-- IEON: an external enable of the register-empty interrupt (R182). -/
  | ieon
  /-- RESET: initialise the context (R230). -/
  | reset
  /-- REFILL, internal to TXSTEP: the remaining bytes of the frame, building a new frame if there are none (R140). -/
  | refill
  /-- POP, internal to REFILL: remove the word at the head of the queue (R120). -/
  | pop
deriving DecidableEq, Repr

/-- The four formats of R81. -/
inductive Format where
  /-- The operand carries a 32-bit value. -/
  | word
  /-- No operand: it must be 0. -/
  | none
  /-- A collaborator event: the operand must be 0. -/
  | event
  /-- Internal: never accepted at the port. -/
  | internal
deriving DecidableEq, Repr

/-- The four agents of R214. -/
inductive Agent where
  /-- P: the one context that advances `Q.wi`. -/
  | producer
  /-- C: the one context that runs the transmit step. -/
  | consumer
  /-- U: the hardware-register collaborator. -/
  | uart
  /-- H: the surrounding system. -/
  | host
deriving DecidableEq, Repr

/-- A command transaction at the port: the 40 bits of R80 and the agent that issues them. -/
structure Transaction where
  issuer : Agent
  bits : BitVec 40
deriving DecidableEq, Repr

/-- The fault codes of R203. -/
inductive FaultCode where
  /-- `F_POP_EMPTY`: a POP with depth 0. -/
  | popEmpty
  /-- `F_READ_UNWRITTEN`: a read of a queue slot that no PUSH has written. -/
  | readUnwritten
  /-- `F_INVARIANT`: the depth exceeds the capacity. -/
  | invariant
deriving DecidableEq, Repr

/-- The refusal reasons of R204. -/
inductive RefusalReason where
  /-- `RF_OPCODE`: the opcode is reserved (R84). -/
  | opcode
  /-- `RF_OPERAND`: a non-zero operand on a format N or E transaction (R85). -/
  | operand
  /-- `RF_INTERNAL`: REFILL or POP at the port (R86). -/
  | internal
  /-- `RF_AGENT`: the agent may not issue the operation (R215). -/
  | agent
  /-- `RF_CONFIG`: the configuration is not valid (R206). -/
  | config
deriving DecidableEq, Repr

/-- How one transaction ended: three of the four outcomes of R202 (the fourth, stuck, has no transaction). -/
inductive OpResult where
  | ok
  | fault (code : FaultCode)
  | refused (reason : RefusalReason)
deriving DecidableEq, Repr

/-- An entry of the event log `H` (R31). -/
inductive Event where
  /-- `TX(b)`: a `transmitByte(b)`. -/
  | tx (b : Byte)
  /-- `IE_EN`: an `enableEmptyInterrupt()`. -/
  | ieEn
  /-- `IE_DIS`: a `disableEmptyInterrupt()`. -/
  | ieDis
deriving DecidableEq, Repr

end Sys2Proof
end

