-- ==== Sys2Proof/Machine/State.lean ====
section
/-! DEFINITION. The state of the block, its collaborator and the model's bookkeeping (spec/10_state.md), as plain data, with
the power-on state (R232) and the closed types of stops. -/

namespace Sys2Proof.Machine

/-- Queue storage `Q.mem` (R20): the slots that hold a word, as (slot, word) pairs with the slots strictly rising. A slot
not listed is *unwritten* (R36). The unit is the whole word: the queue has no byte order and no operation reads part of a
word (R53, R54, R57; DESIGN CHOICE, safe: notes/assumptions/9.md). -/
abbrev Memory := List (Nat × Word)

/-- The canonical form: slots strictly rising. No entry can equal what an unlisted slot reads as, since that is no word. -/
abbrev Memory.wf (m : Memory) : Prop := m.Pairwise fun p q => p.1 < q.1

/-- The whole state. Fields up to `resp` are the spec's; the last four are the model's own, and say so. -/
structure State where
  /-- The configuration of R7 to R15, fixed for a run. -/
  cfg : Config
  /-- `Q.mem` (R20). -/
  mem : Memory
  /-- `Q.wi`, the source's writeIndex (R21). -/
  wi : Word
  /-- `Q.ri`, the source's readIndex (R22). -/
  ri : Word
  /-- `F.buf[0..7]`; `none` is *unwritten* (R25, R37). -/
  buf : Octets (Option Byte)
  /-- `T.cur`, 0 to 8 (R26). -/
  cur : Fin 9
  /-- `T.txState`, the activity flag (R28). -/
  txState : Bool
  /-- `U.regEmpty` (R30). -/
  regEmpty : Bool
  /-- `U.ie` (R30). -/
  ie : Bool
  /-- `U.wire`, first byte first (R30). -/
  wire : List Byte
  /-- `H`, first entry first (R31). -/
  log : List Event
  /-- `M.fault` (R32). -/
  fault : Option FaultCode
  /-- `M.refused` (R32). -/
  refused : Bool
  /-- `resp`, the response word of the last transaction served (R80, R83). -/
  resp : Word
  /-- MODEL's own: how that transaction ended (R202), with the code or reason. -/
  result : OpResult
  /-- MODEL's own: the agent that issued the transaction being served (R80). -/
  agent : Agent
  /-- MODEL's own: the transactions presented at the command port and not yet served, in the order of the interleaving
  chosen (R60, R98, R214; notes/assumptions/7.md). -/
  port : List Transaction
  /-- MODEL's own: counts the free values used so far. -/
  free : Nat
deriving DecidableEq, Repr

/-- Why the machine stops. -/
inductive Fault where
  /-- R202's outcome *stuck*: no agent has issued a transaction, so no step is enabled. Raised by `step` alone. Safe: nothing
  is proved of a step that does not happen. -/
  | stuck
deriving DecidableEq, Repr

/-- Why an instruction has no meaning. The refusals of R204 are not here: R202 gives each an effect (`M.refused` is set, the
run goes on), so they are next states. -/
inductive Refusal where
  /-- An arm of `exec` without a meaning; no arm is. Safe. -/
  | notModelled (mnemonic : String)
deriving DecidableEq, Repr

/-- What a step or a meaning answers. -/
abbrev Result := Host.Outcome State Fault Refusal

/-- The power-on state of R232 under a configuration: the values of R35 to R41, and for the model's own fields the values
that notes/assumptions/8.md names (DESIGN CHOICE, unsafe). -/
def State.powerOn (c : Config) : State where
  cfg := c
  mem := []
  wi := 0
  ri := 0
  buf := ⟨some (BitVec.ofNat 8 c.startByte), some (BitVec.ofNat 8 c.localAddr), some (BitVec.ofNat 8 c.serverAddr),
    none, none, none, none, none⟩
  cur := 8
  txState := false
  regEmpty := true
  ie := false
  wire := []
  log := []
  fault := none
  refused := false
  resp := 0
  result := .ok
  agent := .host
  port := []
  free := 0

/-- The machine right after power-on. The spec leaves the configuration a parameter; this one value is its test
configuration TC1 (DESIGN CHOICE, notes/assumptions/1.md), and no statement rests on it. -/
def State.reset : State := State.powerOn Config.tc1

end Sys2Proof.Machine
end

