-- ==== Sys2Proof/Machine/Flags.lean ====
section
/-! DEFINITION. The one flag of the block and what is computed from it and from the collaborator's bits: the two named states
of the cursor (R34, R170), the register-empty interrupt request (R44, R207) and the two ways a transmit step writes the flag. -/

namespace Sys2Proof.Machine

/-- The named states of the TransmitCursor (R34, R170). -/
inductive CursorState where
  | idle
  | sending
deriving DecidableEq, Repr

/-- Idle is `T.txState = 0`, Sending is `T.txState = 1` (R34). -/
def State.cursorState (s : State) : CursorState := if s.txState then .sending else .idle

/-- The register-empty interrupt request is pending exactly while `U.ie` and `U.regEmpty` are both true: a level, not latched
(R44, R207). -/
def State.irqPending (s : State) : Bool := s.ie && s.regEmpty

/-- The flag written by the Sending path and by the Idle path of TXSTEP, and by RESET (R28, R39). -/
def State.setTxState (b : Bool) (s : State) : State := { s with txState := b }

end Sys2Proof.Machine
end

