-- ==== Sys2Proof/WellFormed.lean ====
section
/-! DEFINITION. What is well formed before the machine looks at it: a configuration (R206) and the 40 bits of a command
transaction (R81, R82, R84 to R86). A term of `Instr` needs no check of its own: PUSH's operand is a 32-bit word by its type
and no other operation has one (R96), so every term has an encoding. -/

namespace Sys2Proof

/-- `C` is a power of two from 1 to 2^31 (R7, first item of R206). -/
def Config.capacityOk (c : Config) : Bool := (List.range 32).any fun k => c.capacity == 2 ^ k

/-- The three header constants lie in 0..255 (second item of R206). -/
def Config.headerOk (c : Config) : Bool :=
  decide (c.startByte < 256) && decide (c.localAddr < 256) && decide (c.serverAddr < 256)

/-- `PAYLOAD_LAYOUT` is a permutation of 0, 1, 2, 3 (R92, third item of R206). -/
def Config.layoutOk (c : Config) : Bool := decide (c.payloadLayout.Perm [0, 1, 2, 3])

/-- `KEY` is exactly 8 bytes (fourth item of R206). -/
def Config.keyOk (c : Config) : Bool := c.key.length == 8

/-- The blocks and keys at which the round-trip law can fail: those that `enc` lists, and those that `ENC_XOR` takes to one
that `dec` lists. Everywhere else both functions are `ENC_XOR`'s, which is its own inverse. -/
def Config.cipherPoints (c : Config) : List (Block × Block) :=
  (c.enc.map fun e => (e.block, e.key)) ++ c.dec.map fun e => (encXor e.block e.key, e.key)

/-- `DEC(ENC(b, k), k) = b` for every block and key (R14, fifth item of R206); that the two functions are total is their
type's. -/
def Config.cipherOk (c : Config) : Bool :=
  c.cipherPoints.all fun p => decide (c.dec.apply (c.enc.apply p.1 p.2) p.2 = p.1)

/-- A valid configuration (R206). -/
def Config.wellFormed (c : Config) : Bool := c.capacityOk && c.headerOk && c.layoutOk && c.keyOk && c.cipherOk

/-- The opcode is assigned in the map of R82 (R84 refuses the others). -/
def Transaction.opcodeAssigned (t : Transaction) : Bool :=
  let op := t.bits.toNat / 2 ^ 32
  decide (1 ≤ op ∧ op ≤ 7) || op == 0x80 || op == 0x81

/-- The operation is one the port takes: not REFILL, not POP (R86). -/
def Transaction.external (t : Transaction) : Bool := decide (t.bits.toNat / 2 ^ 32 < 0x80)

/-- The operand is 0 unless the format is W (R81, R85). -/
def Transaction.operandOk (t : Transaction) : Bool :=
  t.bits.toNat / 2 ^ 32 == 1 || t.bits.toNat % 2 ^ 32 == 0

/-- The bits spell an operation that the port takes (R82, R84 to R86). Who may issue it is R215's, checked when it is run. -/
def Transaction.wellFormed (t : Transaction) : Bool := t.opcodeAssigned && t.external && t.operandOk

end Sys2Proof
end

