-- ==== Sys2Proof/Machine/Operands.lean ====
section
/-! DEFINITION. How values are taken apart and put together: counters to slots and depth, the bytes of a word, the payload,
header and checksum of a frame, the cipher pass, and the response words. -/

namespace Sys2Proof.Machine

/-- The slot that a counter selects: `counter mod C` (R21, R22, R50). -/
def slotOf (c : Config) (counter : Word) : Nat := counter.toNat % c.capacity

/-- `byte_j(w) = w[8j+7:8j]` (00_scope.md section 4). -/
def wordByte (w : Word) (j : Nat) : Byte := w.extractLsb' (8 * j) 8

/-- `payload[i] = byte_{pi(i)}(w)`, `pi = PAYLOAD_LAYOUT` (R92). -/
def payloadByte (c : Config) (w : Word) (i : Nat) : Byte := wordByte w (c.payloadLayout.getD i 0)

/-- `START_BYTE`, `LOCAL_ADDR` and `SERVER_ADDR` as the bytes that R90 puts in the header. -/
def startByteOf (c : Config) : Byte := BitVec.ofNat 8 c.startByte
def localAddrOf (c : Config) : Byte := BitVec.ofNat 8 c.localAddr
def serverAddrOf (c : Config) : Byte := BitVec.ofNat 8 c.serverAddr

/-- The checksum of R144: the exclusive-or of the three header constants and the four payload bytes, all plaintext. -/
def checksum (c : Config) (w : Word) : Byte :=
  startByteOf c ^^^ localAddrOf c ^^^ serverAddrOf c ^^^ payloadByte c w 0 ^^^ payloadByte c w 1 ^^^ payloadByte c w 2 ^^^
    payloadByte c w 3

/-- The plaintext frame of a word (R89 to R92, steps 2 to 4 of R143). The header is written anew for every frame (R145). -/
def plainFrame (c : Config) (w : Word) : Block :=
  ⟨startByteOf c, localAddrOf c, serverAddrOf c, checksum c w,
    payloadByte c w 0, payloadByte c w 1, payloadByte c w 2, payloadByte c w 3⟩

/-- `KEY` as a block. A valid configuration gives exactly eight bytes (R206). -/
def keyBlock (c : Config) : Block :=
  ⟨c.key.getD 0 0, c.key.getD 1 0, c.key.getD 2 0, c.key.getD 3 0, c.key.getD 4 0, c.key.getD 5 0, c.key.getD 6 0,
    c.key.getD 7 0⟩

/-- `ENC` under a configuration (R14). -/
def cipherEnc (c : Config) : Block → Block → Block := c.enc.apply

/-- `DEC` under a configuration (R14). -/
def cipherDec (c : Config) : Block → Block → Block := c.dec.apply

/-- The eight bytes that REFILL leaves in `F.buf` for a word and that go on the wire: the plaintext frame, passed once through
the cipher under `KEY` when `ENCRYPT` is true (R94, R146). -/
def wireFrame (c : Config) (w : Word) : Block :=
  if c.encrypt then cipherEnc c (plainFrame c w) (keyBlock c) else plainFrame c w

/-- `zext_32` of one bit (R97). -/
def bitWord (b : Bool) : Word := if b then 1 else 0

/-- `remaining = 8 - T.cur` (R26), as the response that REFILL returns (R83). -/
def remaining (cur : Fin 9) : Nat := 8 - cur.val

/-- Byte number `cur` of the frame buffer, `none` where it is unwritten (R177). -/
def bufByte (buf : Octets (Option Byte)) (cur : Fin 9) : Option Byte := (buf.toList[cur.val]?).join

/-- The cursor one place on; it never passes 8 (R26). -/
def advance (cur : Fin 9) : Fin 9 := ⟨min (cur.val + 1) 8, by omega⟩

end Sys2Proof.Machine
end

