-- ==== Sys2Proof/Machine/Ops.lean ====
section
/-! DEFINITION. The shared operations: reading and writing queue storage, answering, refusing and faulting, the collaborator
primitives, the table of which agent may issue what, and POP and REFILL as TXSTEP performs them.

The block takes no exception and returns from none (R200, R212, R213): it saves nothing, has no vector and changes no mode.
What stands in their place are R202's marks, `State.raise` and `State.refuse`: next states, since R202 says what they set. -/

namespace Sys2Proof.Machine

/-- `MemRead(Q, a)`: the word in slot `a`, `none` if the slot is unwritten (R36, R51). -/
def Memory.read : Memory → Nat → Option Word
  | [], _ => none
  | (b, v) :: m, a => if b = a then some v else Memory.read m a

/-- `MemWrite(Q, a, w)`: slot `a` now holds `w`; the list stays in its canonical form (R51). -/
def Memory.write : Memory → Nat → Word → Memory
  | [], a, w => [(a, w)]
  | (b, v) :: m, a, w =>
    if a < b then (a, w) :: (b, v) :: m
    else if a = b then (a, w) :: m
    else (b, v) :: Memory.write m a w

/-- `depth = Q.wi -32 Q.ri` (R23). -/
def State.depth (s : State) : Word := s.wi - s.ri

/-- The transaction ends well with response `v` (R83, R202). -/
def State.respond (v : Word) (s : State) : State := { s with resp := v, result := .ok }

/-- The transaction is refused: `M.refused` is set, the response is 0, nothing else of the spec's state changes (R83, R202,
R204, R205). The run goes on (DESIGN CHOICE, safe: notes/assumptions/2.md). -/
def State.refuse (r : RefusalReason) (s : State) : State :=
  { s with refused := true, resp := 0, result := .refused r }

/-- `raise Fault(code)` in an operation that has already set its response: `M.fault` is set, nothing else of the spec's state
changes (R202, R203). A later code replaces an earlier one (DESIGN CHOICE: notes/assumptions/3.md). -/
def State.raise (c : FaultCode) (s : State) : State := { s with fault := some c, result := .fault c }

/-- `raise Fault(code)` in an operation that has not set its response: the spec states none, so it is a free value
(notes/assumptions/5.md). -/
def State.raiseOpen (c : FaultCode) (s : State) : State :=
  { s.raise c with resp := Config.freeResponse s.free, free := s.free + 1 }

/-- `transmitByte(b)`: logged, appended to the wire, and the register is no longer empty (R171, R178). -/
def State.transmitByte (b : Byte) (s : State) : State :=
  { s with log := s.log ++ [.tx b], wire := s.wire ++ [b], regEmpty := false }

/-- `enableEmptyInterrupt()` called by the block: logged, and the interrupt is enabled (R171, R176). -/
def State.enableEmptyInterrupt (s : State) : State := { s with log := s.log ++ [.ieEn], ie := true }

/-- `disableEmptyInterrupt()` called by the block: logged, and the interrupt is disabled (R171, R176). -/
def State.disableEmptyInterrupt (s : State) : State := { s with log := s.log ++ [.ieDis], ie := false }

/-- Which agents may issue an operation (R215). REFILL and POP are the consumer's, inside its TXSTEP (R82, R122,
R149). R81 and R82 name other issuers for some; R215 decides (DEDUCED, unsafe: notes/assumptions/12.md). -/
def issuers : Instr → List Agent
  | .push _ => [.producer]
  | .depth => [.producer, .consumer, .host]
  | .status => [.producer, .consumer, .host]
  | .txstep => [.consumer]
  | .txdone => [.uart]
  | .ieon => [.producer, .host]
  | .reset => [.host]
  | .refill => [.consumer]
  | .pop => [.consumer]

/-- Do `op` if the issuing agent may, and refuse with `RF_AGENT` otherwise (R211 item 4, R215). -/
def guardIssuer (i : Instr) (op : State → State) (s : State) : Result :=
  .next (if s.agent ∈ issuers i then op s else s.refuse .agent)

/-- Do `op` if `TRACE_ENABLED`; otherwise change no state and answer 0 (R15, R211 item 5). RESET (R230)
does not pass through it, nor do TXDONE and IEON (DEDUCED, safe: notes/assumptions/18.md). -/
def whenEnabled (op : State → State) (s : State) : State :=
  if s.cfg.traceEnabled then op s else s.respond 0

/-- Append a word at the tail of the queue (R110, accepted case). -/
def State.enqueue (w : Word) (s : State) : State :=
  { s with mem := Memory.write s.mem (slotOf s.cfg s.wi) w, wi := s.wi + 1 }

/-- The word at the head leaves the queue: `Q.ri <- Q.ri +32 1`. The slot keeps the word (R124). -/
def State.dequeue (s : State) : State := { s with ri := s.ri + 1 }

/-- POP (R120): the word at the head and the state without it. -/
def State.popWord (s : State) : Except FaultCode (Word × State) :=
  if s.depth = 0#32 then .error .popEmpty
  else if s.cfg.capacity < s.depth.toNat then .error .invariant
  else
    match Memory.read s.mem (slotOf s.cfg s.ri) with
    | none => .error .readUnwritten
    | some w => .ok (w, s.dequeue)

/-- The frame of a word put in the buffer, with the cursor at its start (R143 steps 2 to 6). -/
def State.loadFrame (w : Word) (s : State) : State :=
  { s with buf := (wireFrame s.cfg w).map some, cur := 0 }

/-- REFILL (R140): the number of unread bytes of the frame, after building a new frame where none is left and the queue holds
a word. -/
def State.refillFrame (s : State) : Except FaultCode (Nat × State) :=
  if remaining s.cur ≠ 0 then .ok (remaining s.cur, s)
  else if s.depth = 0#32 then .ok (0, s)
  else
    match s.popWord with
    | .error c => .error c
    | .ok (w, s1) => .ok (8, s1.loadFrame w)

/-- `b = F.buf[T.cur]`, then `T.cur <- T.cur + 1` (R174, R177). An unwritten byte, which no run reaches, is a free value
(R37, item U6). -/
def State.takeByte (s : State) : Byte × State :=
  match bufByte s.buf s.cur with
  | some b => (b, { s with cur := advance s.cur })
  | none => (Config.freeByte s.free, { s with cur := advance s.cur, free := s.free + 1 })

/-- The Sending path of TXSTEP (R174). -/
def State.sendByte (s : State) : State :=
  (((s.takeByte.2.transmitByte s.takeByte.1).setTxState true).enableEmptyInterrupt).respond 0

/-- The Idle path of TXSTEP (R175). -/
def State.goIdle (s : State) : State := ((s.disableEmptyInterrupt).setTxState false).respond 0

/-- Bring the context to its initial values, the collaborator, the log and the marks left alone (R230, R231). -/
def State.initContext (s : State) : State :=
  { s with
    wi := 0
    ri := 0
    mem := []
    buf := ⟨some (startByteOf s.cfg), some (localAddrOf s.cfg), some (serverAddrOf s.cfg), none, none, none, none, none⟩
    cur := 8
    txState := false }

end Sys2Proof.Machine
end

