-- ==== Sys2Proof/Machine/EventQueue.lean ====
section
/-! DEFINITION. The EventQueue family (spec/40_event_queue.md): PUSH, POP, DEPTH. -/

namespace Sys2Proof.Machine

/-- PUSH on an enabled block (R110): accepted below capacity, dropped at capacity (R111). -/
def State.pushWord (w : Word) (s : State) : State :=
  if s.cfg.capacity < s.depth.toNat then s.raiseOpen .invariant
  else if s.depth.toNat < s.cfg.capacity then (s.enqueue w).respond 1
  else s.respond 0

/-- PUSH (R110, R113, R115). -/
def execPush (w : Word) (s : State) : Result := guardIssuer (.push w) (whenEnabled (State.pushWord w)) s

/-- DEPTH on an enabled block (R130). -/
def State.reportDepth (s : State) : State :=
  if s.cfg.capacity < s.depth.toNat then s.raiseOpen .invariant else s.respond s.depth

/-- DEPTH (R130, R131). -/
def execDepth (s : State) : Result := guardIssuer .depth (whenEnabled State.reportDepth) s

/-- POP as an operation of its own, answering the popped word (R83, R120). The port never reaches it (R86); TXSTEP performs
the same `State.popWord` inside REFILL (DESIGN CHOICE, safe: notes/assumptions/10.md). -/
def State.popAndRespond (s : State) : State :=
  match s.popWord with
  | .error c => s.raiseOpen c
  | .ok (w, s1) => s1.respond w

/-- POP (R120, R122). -/
def execPop (s : State) : Result := guardIssuer .pop State.popAndRespond s

end Sys2Proof.Machine
end

