-- ==== Sys2Proof/Machine/FrameBuilder.lean ====
section
/-! DEFINITION. The FrameBuilder family (spec/41_frame_builder.md): REFILL. -/

namespace Sys2Proof.Machine

/-- REFILL as an operation of its own, answering the remaining count as a 4-bit value (R83, R140). The port never reaches it
(R86); TXSTEP performs the same `State.refillFrame` (DESIGN CHOICE, safe: notes/assumptions/10.md). -/
def State.refillAndRespond (s : State) : State :=
  match s.refillFrame with
  | .error c => s.raiseOpen c
  | .ok (n, s1) => s1.respond ((BitVec.ofNat 4 n).setWidth 32)

/-- REFILL (R140, R149). -/
def execRefill (s : State) : Result := guardIssuer .refill State.refillAndRespond s

end Sys2Proof.Machine
end

