-- ==== Sys2Proof/Machine/Reset.lean ====
section
/-! DEFINITION. The RESET operation (spec/70_reset_and_hazards.md). -/

namespace Sys2Proof.Machine

/-- RESET (R230): it initialises the context also where `TRACE_ENABLED` is false. -/
def execReset (s : State) : Result := guardIssuer .reset (fun s => s.initContext.respond 0) s

end Sys2Proof.Machine
end

