-- ==== Sys2Proof/Machine/TransmitCursor.lean ====
section
/-! DEFINITION. The TransmitCursor family and the collaborator events (spec/42_transmit_cursor.md): TXSTEP, STATUS, TXDONE,
IEON. -/

namespace Sys2Proof.Machine

/-- TXSTEP on an enabled block (R171): a no-op while the register is busy (R173); otherwise REFILL decides between the Sending
path (R174) and the Idle path (R175). `resp` is 0 on every path. -/
def State.transmitStep (s : State) : State :=
  if s.regEmpty then
    match s.refillFrame with
    | .error c => (s.respond 0).raise c
    | .ok (n, s1) => if 0 < n then s1.sendByte else s1.goIdle
  else s.respond 0

/-- TXSTEP (R171, R172). -/
def execTxstep (s : State) : Result := guardIssuer .txstep (whenEnabled State.transmitStep) s

/-- STATUS on an enabled block (R179). -/
def State.reportStatus (s : State) : State := s.respond (bitWord s.txState)

/-- STATUS (R179, R180). -/
def execStatus (s : State) : Result := guardIssuer .status (whenEnabled State.reportStatus) s

/-- `U.regEmpty <- true` (R181). -/
def State.registerDone (s : State) : State := State.respond 0 { s with regEmpty := true }

/-- TXDONE (R181). -/
def execTxdone (s : State) : Result := guardIssuer .txdone State.registerDone s

/-- `U.ie <- true`, not logged: the host's own call, not the block's (R182). -/
def State.hostEnable (s : State) : State := State.respond 0 { s with ie := true }

/-- IEON (R182). -/
def execIeon (s : State) : Result := guardIssuer .ieon State.hostEnable s

end Sys2Proof.Machine
end

