-- ==== Sys2Proof/Machine/Dispatch.lean ====
section
/-! DEFINITION. The dispatch: one arm for each constructor of `Instr`, each a direct call of its meaning. -/

namespace Sys2Proof.Machine

def exec (i : Instr) (s : State) : Host.Outcome State Fault Refusal :=
  match i with
  | .push w => Sys2Proof.Machine.execPush w s
  | .depth => Sys2Proof.Machine.execDepth s
  | .status => Sys2Proof.Machine.execStatus s
  | .txstep => Sys2Proof.Machine.execTxstep s
  | .txdone => Sys2Proof.Machine.execTxdone s
  | .ieon => Sys2Proof.Machine.execIeon s
  | .reset => Sys2Proof.Machine.execReset s
  | .refill => Sys2Proof.Machine.execRefill s
  | .pop => Sys2Proof.Machine.execPop s

end Sys2Proof.Machine
end

