-- ==== Sys2Proof/Decode.lean ====
section
/-! DEFINITION. The command encoding (spec/30_encoding.md sections 1 to 3): a total decoder from the 40 bits of a transaction
to an operation or a refusal by name, and the encoder written from the same map R82. -/

namespace Sys2Proof

/-- Bits [39:32], the opcode field (R80). -/
def opcodeField (t : BitVec 40) : BitVec 8 := t.extractLsb' 32 8

/-- Bits [31:0], the operand field (R80). -/
def operandField (t : BitVec 40) : Word := t.extractLsb' 0 32

/-- The format column of R82. -/
def Instr.format : Instr → Format
  | .push _ => .word
  | .depth => .none
  | .status => .none
  | .txstep => .none
  | .txdone => .event
  | .ieon => .event
  | .reset => .none
  | .refill => .internal
  | .pop => .internal

/-- A format N or E operation: refused with `RF_OPERAND` unless the operand is 0 (R85). -/
def decodePlain (i : Instr) (opnd : Word) : Except RefusalReason Instr :=
  if opnd = 0#32 then .ok i else .error .operand

/-- An internal code: named where the operand is 0; with any other operand it is refused with `RF_INTERNAL`, the check that
comes before `RF_OPERAND` (R86, R211). -/
def decodeInternal (i : Instr) (opnd : Word) : Except RefusalReason Instr :=
  if opnd = 0#32 then .ok i else .error .internal

/-- The decoder of R88: it reads `op`, then applies the map of R82; every opcode not in the map is reserved (R84). -/
def decode (t : BitVec 40) : Except RefusalReason Instr :=
  match opcodeField t with
  | 0x01#8 => .ok (.push (operandField t))
  | 0x02#8 => decodePlain .depth (operandField t)
  | 0x03#8 => decodePlain .status (operandField t)
  | 0x04#8 => decodePlain .txstep (operandField t)
  | 0x05#8 => decodePlain .txdone (operandField t)
  | 0x06#8 => decodePlain .ieon (operandField t)
  | 0x07#8 => decodePlain .reset (operandField t)
  | 0x80#8 => decodeInternal .refill (operandField t)
  | 0x81#8 => decodeInternal .pop (operandField t)
  | _ => .error .opcode

/-- The opcode column of R82. -/
def Instr.opcode : Instr → BitVec 8
  | .push _ => 0x01
  | .depth => 0x02
  | .status => 0x03
  | .txstep => 0x04
  | .txdone => 0x05
  | .ieon => 0x06
  | .reset => 0x07
  | .refill => 0x80
  | .pop => 0x81

/-- The operand: PUSH's word as it is, 0 for every other operation (R81, R96). -/
def Instr.operand : Instr → Word
  | .push w => w
  | .depth => 0
  | .status => 0
  | .txstep => 0
  | .txdone => 0
  | .ieon => 0
  | .reset => 0
  | .refill => 0
  | .pop => 0

/-- The transaction `{op, opnd}` of an operation (R80, R99). -/
def encode (i : Instr) : BitVec 40 := i.opcode ++ i.operand

/-- The bits of an instruction of which the table gives the low `nbits`, as a number with bit 0 the least significant: the
port takes a transaction as one 40-bit word (R80), so there is no byte order to undo. A number that does not fit the fixed
length of R88 is no transaction. -/
def tableBits (nbits w : Nat) : Option (BitVec 40) :=
  if w % 2 ^ nbits < 2 ^ 40 then some (BitVec.ofNat 40 (w % 2 ^ nbits)) else none

/-- The operation that `decode` reads from a row of the opcode table, `none` where it refuses. -/
def decodeTableWord (nbits w : Nat) : Option Instr :=
  match tableBits nbits w with
  | none => none
  | some t =>
    match decode t with
    | .ok i => some i
    | .error _ => none

end Sys2Proof
end

