-- ==== Sys2Proof/Machine/Port.lean ====
section
/-! DEFINITION. The command port: how a pending transaction is taken, what is checked before its operation runs, and how an
instruction is presented as the next transaction. -/

namespace Sys2Proof.Machine

/-- Take transaction `t` off the port, leaving `rest`: the operation that follows is issued by `t`'s agent (R80). -/
def State.take (t : Transaction) (rest : List Transaction) (s : State) : State :=
  { s with agent := t.issuer, port := rest }

/-- What the port checks before an operation runs, the first that applies deciding (R206, R211): the configuration, the
opcode, the internal codes, the operand. The agent is checked by the operation itself (`guardIssuer`).
That the configuration comes first is DEDUCED, safe: notes/assumptions/11.md. -/
def accept (c : Config) (t : Transaction) : Except RefusalReason Instr :=
  if c.wellFormed then
    match decode t.bits with
    | .error r => .error r
    | .ok i => if i.format = .internal then .error .internal else .ok i
  else .error .config

/-- The agent that a transaction's opcode belongs to when a line names none (R98); the raw lines of 95_test_vectors.md are the
producer's, and the internal codes are the consumer's (R82) (notes/assumptions/7.md). -/
def usualIssuer (t : BitVec 40) : Agent :=
  match opcodeField t with
  | 0x04#8 => .consumer
  | 0x05#8 => .uart
  | 0x06#8 => .host
  | 0x07#8 => .host
  | 0x80#8 => .consumer
  | 0x81#8 => .consumer
  | _ => .producer

/-- Put a transaction first at the port. -/
def State.present (t : Transaction) (s : State) : State := { s with port := t :: s.port }

/-- Put the instruction whose table bits are `w` first at the port, issued by its usual agent; bits that are no transaction
present nothing. -/
def State.presentWord (s : State) (nbits w : Nat) : State :=
  match tableBits nbits w with
  | none => s
  | some t => s.present ⟨usualIssuer t, t⟩

end Sys2Proof.Machine
end

