-- ==== Sys2Proof/Machine/Step.lean ====
section
/-! DEFINITION. One step of the machine: the next pending transaction is taken from the command port and served as one atomic
transition (R60). -/

namespace Sys2Proof.Machine

/-- Serve the first pending transaction: refuse it by name, or run its operation. With nothing pending no agent has an enabled
step: R202's *stuck* (DEDUCED, safe: notes/assumptions/4.md). -/
def step (s : State) : Host.Outcome State Fault Refusal :=
  match s.port with
  | [] => .fault .stuck
  | t :: rest =>
    match accept s.cfg t with
    | .error r => .next ((s.take t rest).refuse r)
    | .ok i => exec i (s.take t rest)

/-- `s` with the instruction whose table bits are `w` as the next transaction at the port, issued by an agent that may issue
it. -/
def State.withFetchWord (s : State) (nbits w : Nat) : State := s.presentWord nbits w

end Sys2Proof.Machine
end

