-- ==== Sys2Proof/Machine/Program.lean ====
section
/-! DEFINITION. Programs as the spec writes them (spec/30_encoding.md section 6): the line syntax of R98, the ten-digit
encoding of R99, and the pseudo-instructions TICK, TICKS and KICK. A program is text outside the machine; what reaches the
machine is the list of transactions that its lines expand to. -/

namespace Sys2Proof.Machine

/-- One line of a program (R98, R101 to R103). -/
inductive ProgramLine where
  /-- One operation, with the agent where the line names one. -/
  | op (agent : Option Agent) (i : Instr)
  /-- `TICK`. -/
  | tick
  /-- `TICKS n`. -/
  | ticks (n : Nat)
  /-- `KICK`. -/
  | kick
deriving DecidableEq, Repr

/-- One operation as a transaction; an agent left out defaults by mnemonic (R98). -/
def opTransaction (agent : Option Agent) (i : Instr) : Transaction :=
  ⟨agent.getD (usualIssuer (encode i)), encode i⟩

/-- `TICK`: `U: TXDONE`, then `C: TXSTEP` (R101). -/
def tickOps : List Transaction := [⟨.uart, encode .txdone⟩, ⟨.consumer, encode .txstep⟩]

/-- `TICKS n`: `n` copies of `TICK` (R102). -/
def ticksOps (n : Nat) : List Transaction := (List.replicate n tickOps).flatten

/-- `KICK` where its STATUS answers `resp`: `P: STATUS`, and `C: TXSTEP` only if `resp[0] = 0` (R103). -/
def kickOps (resp : Word) : List Transaction :=
  ⟨.producer, encode .status⟩ :: if resp.getLsbD 0 then [] else [⟨.consumer, encode .txstep⟩]

/-- What STATUS answers in a state, and so which branch a `KICK` begun there takes (R103, R179, R180). -/
def statusAnswer (s : State) : Word := (whenEnabled State.reportStatus s).resp

/-- The transactions of a line begun in state `s`. -/
def ProgramLine.expand (s : State) : ProgramLine → List Transaction
  | .op a i => [opTransaction a i]
  | .tick => tickOps
  | .ticks n => ticksOps n
  | .kick => kickOps (statusAnswer s)

/-- The value of a hexadecimal digit. -/
def digitValue (c : Char) : Option Nat :=
  let n := c.toNat
  if 48 ≤ n ∧ n ≤ 57 then some (n - 48)
  else if 65 ≤ n ∧ n ≤ 70 then some (n - 55)
  else if 97 ≤ n ∧ n ≤ 102 then some (n - 87)
  else none

/-- Digits in a base, most significant first, on top of the value read so far. -/
def readDigits (base : Nat) : List Char → Nat → Option Nat
  | [], n => some n
  | c :: cs, n =>
    match digitValue c with
    | some d => if d < base then readDigits base cs (n * base + d) else none
    | none => none

/-- A number in C notation, hexadecimal after `0x` or decimal (R98). A number with a leading zero and no `0x`, such as `010`,
reads as decimal, where C itself would read octal; R98 names only the two bases (DESIGN CHOICE, unsafe:
notes/assumptions/19.md). -/
def readNumber : List Char → Option Nat
  | [] => none
  | '0' :: 'x' :: c :: cs => readDigits 16 (c :: cs) 0
  | c :: cs => readDigits 10 (c :: cs) 0

/-- Drop leading blanks. -/
def skipBlanks : List Char → List Char
  | [] => []
  | c :: cs => if c = ' ' then skipBlanks cs else c :: cs

/-- Cut a line into its words at the blanks; `acc` holds the word being read, last letter first. -/
def cutWords : List Char → List Char → List (List Char)
  | [], [] => []
  | [], acc => [acc.reverse]
  | c :: cs, acc =>
    if c = ' ' then (if acc = [] then cutWords cs [] else acc.reverse :: cutWords cs []) else cutWords cs (c :: acc)

/-- The `agent:` prefix of a line and what follows it (R98). -/
def readAgent : List Char → Option Agent × List Char
  | 'P' :: ':' :: cs => (some .producer, cs)
  | 'C' :: ':' :: cs => (some .consumer, cs)
  | 'U' :: ':' :: cs => (some .uart, cs)
  | 'H' :: ':' :: cs => (some .host, cs)
  | cs => (none, cs)

/-- The mnemonics of the port operations that take no operand (R82, R98). -/
def plainMnemonic (m : List Char) : Option Instr :=
  if m = ['D', 'E', 'P', 'T', 'H'] then some .depth
  else if m = ['S', 'T', 'A', 'T', 'U', 'S'] then some .status
  else if m = ['T', 'X', 'S', 'T', 'E', 'P'] then some .txstep
  else if m = ['T', 'X', 'D', 'O', 'N', 'E'] then some .txdone
  else if m = ['I', 'E', 'O', 'N'] then some .ieon
  else if m = ['R', 'E', 'S', 'E', 'T'] then some .reset
  else none

/-- The words of a line after its agent (R98, R101 to R103). A pseudo-instruction names no agent: it fixes its own. -/
def readWords (agent : Option Agent) : List (List Char) → Option ProgramLine
  | [m] =>
    if m = ['T', 'I', 'C', 'K'] then (if agent = none then some .tick else none)
    else if m = ['K', 'I', 'C', 'K'] then (if agent = none then some .kick else none)
    else (plainMnemonic m).map (.op agent)
  | [m, n] =>
    if m = ['P', 'U', 'S', 'H'] then
      match readNumber n with
      | some v => if v < 2 ^ 32 then some (.op agent (.push (BitVec.ofNat 32 v))) else none
      | none => none
    else if m = ['T', 'I', 'C', 'K', 'S'] then
      match readDigits 10 n 0 with
      | some v => if agent = none ∧ 1 ≤ v then some (.ticks v) else none
      | none => none
    else none
  | _ => none

/-- Read one line `[agent:] MNEMONIC [operand] [; comment]` (R98); `none` for text that spells no line. -/
def readLine (cs : List Char) : Option ProgramLine :=
  let body := readAgent (skipBlanks (cs.takeWhile (· ≠ ';')))
  readWords body.1 (cutWords body.2 [])

/-- A hexadecimal digit as a letter. -/
def digitLetter (d : Nat) : Char := if d < 10 then Char.ofNat (48 + d) else Char.ofNat (55 + d)

/-- A transaction written as 10 hexadecimal digits: two for `op`, then eight for `opnd` (R99). -/
def hexDigits (t : BitVec 40) : List Char :=
  [9, 8, 7, 6, 5, 4, 3, 2, 1, 0].map fun k => digitLetter (t.toNat / 16 ^ k % 16)

end Sys2Proof.Machine
end

