-- ==== Sys2Proof/Safety.lean ====
section
/-! DEFINITION. The terms in which claims are stated: an unmarked run (R205), the states that runs stay in, the words and
bytes still to be sent, what the next step serves, the two drivers (R209, R210) and the end of a run (R222). -/

namespace Sys2Proof.Machine

/-- No fault and no refusal is recorded: the premise of a claim about a run (R205). -/
def State.unmarked (s : State) : Prop := s.fault = none ∧ s.refused = false

/-- `t` is `s` after an operation that ended in `Fault(c)`: `M.fault` is set, to `c` where no fault was recorded before, and no
other state of the spec differs but the response, which the spec leaves open there (R202, R203). -/
def State.faultedFrom (c : FaultCode) (s t : State) : Prop :=
  t.fault ≠ none ∧ (s.fault = none → t.fault = some c) ∧ t.result = .fault c ∧
    { t with fault := s.fault, result := s.result, resp := s.resp, free := s.free } = s

/-- Slot `(Q.ri + k) mod C`, the one that holds the `k`-th word waiting (R21, R22). -/
def State.waitingSlot (s : State) (k : Nat) : Nat := slotOf s.cfg (s.ri + BitVec.ofNat 32 k)

/-- The words waiting in the queue, the head first (R133). -/
def State.queued (s : State) : List Word :=
  (List.range s.depth.toNat).filterMap fun k => Memory.read s.mem (s.waitingSlot k)

/-- The bytes of the current frame not yet sent (R26, R42). -/
def State.unsent (s : State) : List Byte := (s.buf.toList.drop s.cur.val).filterMap id

/-- Every byte sent, in flight or still to be built from a waiting word, in the order of the wire (R62, R133). -/
def State.stream (s : State) : List Byte :=
  s.wire ++ s.unsent ++ s.queued.flatMap fun w => (wireFrame s.cfg w).toList

/-- The bytes that a log says were handed to `transmitByte` (R31, R178). -/
def sentBytes (log : List Event) : List Byte :=
  log.filterMap fun e => match e with
    | .tx b => some b
    | .ieEn => none
    | .ieDis => none

/-- What holds of every state that a run from power-on reaches under a valid configuration. -/
structure State.Inv (s : State) : Prop where
  /-- The configuration is valid (R206). -/
  config : s.cfg.wellFormed = true
  /-- Queue storage is in its canonical form. -/
  memory : s.mem.wf
  /-- Only slots `0..C-1` exist (R20). -/
  slots : ∀ p ∈ s.mem, p.1 < s.cfg.capacity
  /-- The depth never exceeds the capacity (R23). -/
  depth : s.depth.toNat ≤ s.cfg.capacity
  /-- Every waiting slot has been written (R36). -/
  written : ∀ k < s.depth.toNat, (Memory.read s.mem (s.waitingSlot k)).isSome = true
  /-- `T.cur` lies in 1..8 between operations (R27). -/
  cursor : 1 ≤ s.cur.val
  /-- The bytes still to be sent have been written (R37, R38). -/
  frame : ∀ i : Fin 8, s.cur.val ≤ i.val → (s.buf.get i).isSome = true
  /-- A frame in flight belongs to the Sending state (R174). -/
  inFlight : s.cur.val < 8 → s.txState = true
  /-- `U.ie` and `T.txState` differ only as `U.ie = 1`, `T.txState = 0` (R183). -/
  paired : s.txState = true → s.ie = true
  /-- A busy register was filled by a Sending step, and nothing has masked the interrupt since (R175, R231). -/
  busy : s.regEmpty = false → s.ie = true
  /-- The wire is the sequence of `transmitByte` calls (R178). -/
  wireLogged : s.wire = sentBytes s.log

/-- The operation that the next step runs: the first pending transaction, where the port accepts it and its agent may issue
it; `none` where there is none or it is refused. -/
def State.served (s : State) : Option Instr :=
  match s.port with
  | [] => none
  | t :: _ =>
    match accept s.cfg t with
    | .error _ => none
    | .ok i => if t.issuer ∈ issuers i then some i else none

/-- The kicks of R245 that a run has asked for: how many accepted PUSHes the producer has not followed with their STATUS yet,
and how many kicks were asked for and not made. -/
structure Kicks where
  pushed : Nat
  asked : Nat
deriving DecidableEq, Repr

/-- No kick is asked for, and no accepted PUSH waits for its STATUS. -/
def Kicks.none : Kicks := ⟨0, 0⟩

/-- The next transaction is the producer's. -/
def State.fromProducer (s : State) : Bool := s.port.head?.any fun x => x.issuer == .producer

/-- What a step from `s` to `t` does to them (R103, R245). Each accepted PUSH is owed one STATUS of the producer; that STATUS asks
for one kick if it answers 0; and one kick is made either by a TXSTEP that no pending request called for or by an IEON. -/
def Kicks.after (k : Kicks) (s t : State) : Kicks :=
  match s.served with
  | some (.push _) => if t.result = .ok ∧ t.resp = 1#32 then { k with pushed := k.pushed + 1 } else k
  | some .status =>
    if 0 < k.pushed ∧ s.fromProducer = true then
      ⟨k.pushed - 1, if t.resp.getLsbD 0 then k.asked else k.asked + 1⟩
    else k
  | some .txstep => if s.irqPending then k else { k with asked := k.asked - 1 }
  | some .ieon => { k with asked := k.asked - 1 }
  | _ => k

/-- The interrupt-driven driver's rule for the next step: the consumer issues TXSTEP only while the request is pending, or as
a kick (R209, R245). -/
def State.interruptDriven (k : Kicks) (s : State) : Prop :=
  s.served = some .txstep → s.irqPending = true ∨ 0 < k.asked

/-- The first `n` steps from `s` keep that rule, `k` being the kicks asked for so far. -/
def State.interruptDrivenRun : Nat → Kicks → State → Prop
  | 0, _, _ => True
  | n + 1, k, s =>
    s.interruptDriven k ∧
      match step s with
      | .next t => State.interruptDrivenRun n (k.after s t) t
      | .fault _ => True
      | .refused _ => True

/-- `P` holds of each of the first `n` states from `s`. -/
def State.along (P : State → Prop) : Nat → State → Prop
  | 0, _ => True
  | n + 1, s =>
    P s ∧
      match step s with
      | .next t => State.along P n t
      | .fault _ => True
      | .refused _ => True

/-- Every line of the programs of P and H has been issued, the UART has nothing left to finish, and the interrupt is masked:
the end of a run (R222). -/
def State.runEnded (s : State) : Prop :=
  (∀ t ∈ s.port, t.issuer ≠ .producer ∧ t.issuer ≠ .host) ∧ s.regEmpty = true ∧ s.ie = false

/-- Under the poll driver the last TXSTEP must also have taken the Idle path, which leaves an `IE_DIS` as the last entry of the
log (R210, R222). -/
def State.pollRunEnded (s : State) : Prop := s.runEnded ∧ s.log.getLast? = some .ieDis

/-- The run ended with every accepted word sent (R222). -/
def State.drained (s : State) : Prop := s.depth = 0#32 ∧ s.cur = 8

end Sys2Proof.Machine
end

