-- ==== Sys2Proof/Certificates/Slice0/Obligations.lean ====
section
/-! DEFINITION. The statements about the model, one `def Obligations.<Name> : Prop` each, listed in OBLIGATIONS.json. A clause
whose hypotheses fix the agent and the state alone and whose conclusion is `exec i s = .next …` says where the instruction
completes; the record it gives is its frame. -/

open Sys2Proof Sys2Proof.Machine

/-! ### Encoding and the command port -/

/-- Every operation decodes from its own encoding (30_encoding.md sections 1 and 2). -/
def Obligations.DecodeOfEncode : Prop := ∀ i : Instr, decode (encode i) = .ok i

/-- Every transaction that decodes is the encoding of what it decodes to: no operation has a second spelling (30_encoding.md
sections 2 and 3). -/
def Obligations.EncodeOfDecode : Prop := ∀ (t : BitVec 40) (i : Instr), decode t = .ok i → encode i = t

/-- A few of the words of 95_test_vectors.md L2-E decode to what they stand for. -/
def Obligations.SpecWordsDecode : Prop :=
  decode 0x0100010002#40 = .ok (.push 0x00010002) ∧ decode 0x0200000000#40 = .ok .depth ∧
    decode 0x0400000000#40 = .ok .txstep ∧ decode 0x0700000000#40 = .ok .reset ∧ decode 0x8000000000#40 = .ok .refill ∧
    decode 0x0300000001#40 = .error .operand ∧ decode 0x8000000005#40 = .error .internal ∧
    decode 0x7F00000000#40 = .error .opcode

/-- R206: what a valid configuration is, and that under any other an operation of the port, issued by an agent that may issue
it, is refused with `RF_CONFIG` instead of being run. -/
def Obligations.ValidConfigurations : Prop :=
  ∀ c : Config,
    (c.wellFormed = true ↔
      (∃ k ≤ 31, c.capacity = 2 ^ k) ∧ (c.startByte ≤ 255 ∧ c.localAddr ≤ 255 ∧ c.serverAddr ≤ 255) ∧
        c.payloadLayout.Perm [0, 1, 2, 3] ∧ c.key.length = 8 ∧ ∀ b k, cipherDec c (cipherEnc c b k) k = b) ∧
    (∀ s x rest i, s.cfg = c → s.port = x :: rest → c.wellFormed = false → decode x.bits = .ok i → i.format ≠ .internal →
      x.issuer ∈ issuers i →
      step s = .next
        { s with agent := x.issuer, port := rest, refused := true, resp := 0, result := .refused .config })

/-- Under an invalid configuration whatever is pending is refused with `RF_CONFIG`, a reserved opcode and a wrong agent included:
the configuration is checked before everything that R211 orders. The model's choice: R206 says "before any operation" and R211
does not place `RF_CONFIG` (DEDUCED, notes/assumptions/11.md; 60_exceptions.md section 1). -/
def Obligations.InvalidConfigurationRefusesEverything : Prop :=
  ∀ (s : State) (x : Transaction) (rest : List Transaction), s.port = x :: rest → s.cfg.wellFormed = false →
    step s = .next
      { s with agent := x.issuer, port := rest, refused := true, resp := 0, result := .refused .config }

/-- R84, R85, R86: at the port of a validly configured block, a reserved opcode, an internal code with any operand, and a
non-zero operand on a format N or E operation are each refused by name and change nothing else. -/
def Obligations.PortRefusesIllFormedTransactions : Prop :=
  ∀ (s : State) (x : Transaction) (rest : List Transaction), s.port = x :: rest → s.cfg.wellFormed = true →
    ((x.bits.toNat / 2 ^ 32 = 0 ∨ (0x08 ≤ x.bits.toNat / 2 ^ 32 ∧ x.bits.toNat / 2 ^ 32 ≤ 0x7F) ∨
        0x82 ≤ x.bits.toNat / 2 ^ 32) →
      step s = .next
        { s with agent := x.issuer, port := rest, refused := true, resp := 0, result := .refused .opcode }) ∧
    ((x.bits.toNat / 2 ^ 32 = 0x80 ∨ x.bits.toNat / 2 ^ 32 = 0x81) →
      step s = .next
        { s with agent := x.issuer, port := rest, refused := true, resp := 0, result := .refused .internal }) ∧
    ((2 ≤ x.bits.toNat / 2 ^ 32 ∧ x.bits.toNat / 2 ^ 32 ≤ 7) → x.bits.toNat % 2 ^ 32 ≠ 0 →
      step s = .next
        { s with agent := x.issuer, port := rest, refused := true, resp := 0, result := .refused .operand })

/-- R215: the agents that the table gives an operation of the port have it served, and any other agent is refused with
`RF_AGENT` and changes nothing else. -/
def Obligations.AgentsIssueOnlyTheirOperations : Prop :=
  ∀ (i : Instr) (s : State), i.format ≠ .internal →
    ∃ allowed : List Agent,
      allowed = (match i with
        | .push _ => [.producer]
        | .depth => [.producer, .consumer, .host]
        | .status => [.producer, .consumer, .host]
        | .txstep => [.consumer]
        | .txdone => [.uart]
        | .ieon => [.producer, .host]
        | .reset => [.host]
        | .refill => []
        | .pop => []) ∧
      (s.agent ∈ allowed → ∃ t, exec i s = .next t ∧ t.refused = s.refused ∧ ∀ r, t.result ≠ .refused r) ∧
      (s.agent ∉ allowed →
        exec i s = .next { s with refused := true, resp := 0, result := .refused .agent })

/-- REFILL and POP on their own are the consumer's, and any other agent is refused with `RF_AGENT`. The model's choice: R215
gives them to no agent, the port refuses both, and only TXSTEP performs them (DESIGN CHOICE, notes/assumptions/10.md;
60_exceptions.md section 4, 30_encoding.md section 2). -/
def Obligations.InternalOperationsAreTheConsumers : Prop :=
  ∀ (i : Instr) (s : State), i = .refill ∨ i = .pop →
    (s.agent = .consumer → ∃ t, exec i s = .next t ∧ t.refused = s.refused ∧ ∀ r, t.result ≠ .refused r) ∧
    (s.agent ≠ .consumer →
      exec i s = .next { s with refused := true, resp := 0, result := .refused .agent })

/-- Where the tables of issuers differ, R215 decides: DEPTH and STATUS by the UART are refused, though R82, R130 and R179 say any
agent, and IEON by the producer is served, though R81 and R82 leave the producer out. The model's reading (DEDUCED, unsafe,
notes/assumptions/12.md, and for a disabled block notes/assumptions/18.md; 60_exceptions.md section 4, 95_test_vectors.md L2-Q16). -/
def Obligations.IssuersWhereTheTablesDiffer : Prop :=
  ∀ s : State,
    (s.agent = .uart →
      exec .depth s = .next { s with refused := true, resp := 0, result := .refused .agent } ∧
      exec .status s = .next { s with refused := true, resp := 0, result := .refused .agent }) ∧
    (s.agent = .producer → exec .ieon s = .next { s with ie := true, resp := 0, result := .ok })

/-- A step runs the decoded instruction: with a validly configured block and a first pending transaction that decodes to an
operation the port takes, the step is that operation issued by the transaction's agent, with the transaction gone from the
port (30_encoding.md section 1, 60_exceptions.md section 3). -/
def Obligations.StepRunsTheDecodedInstruction : Prop :=
  ∀ (s : State) (x : Transaction) (rest : List Transaction) (i : Instr),
    s.port = x :: rest → s.cfg.wellFormed = true → decode x.bits = .ok i → i.format ≠ .internal →
      step s = exec i { s with agent := x.issuer, port := rest }

/-- Nothing but an empty port stops the machine: every operation and every refused transaction has a next state. The model's
choice: refusals and faults are next states with a mark (DESIGN CHOICE, notes/assumptions/2.md and 3.md), and *stuck* is the
empty port (DEDUCED, notes/assumptions/4.md); 20_memory.md section 7, 60_exceptions.md section 1. -/
def Obligations.OnlyAnEmptyPortStops : Prop :=
  (∀ (i : Instr) (s : State), ∃ t, exec i s = .next t) ∧
    (∀ s : State, s.port = [] → step s = .fault .stuck) ∧
    (∀ (s : State) (x : Transaction) (rest : List Transaction), s.port = x :: rest →
      ∃ t, step s = .next t ∧ t.port = rest ∧ t.agent = x.issuer ∧ t.cfg = s.cfg)

/-- A transaction that is not served is refused for a named reason, answers 0, and changes no state of the block or of its
collaborator (60_exceptions.md section 1). -/
def Obligations.RefusedTransactionsChangeNothing : Prop :=
  ∀ (s : State) (x : Transaction) (rest : List Transaction), s.port = x :: rest → s.served = none →
    ∃ r, step s = .next
      { s with agent := x.issuer, port := rest, refused := true, resp := 0, result := .refused r }

/-! ### EventQueue -/

/-- R110, R111, R113: PUSH by the producer. -/
def Obligations.PushAppendsOrDrops : Prop :=
  ∀ (w : Word) (s : State),
    decode (0x01#8 ++ w) = .ok (.push w) ∧
    (s.agent ≠ .producer →
      exec (.push w) s = .next { s with refused := true, resp := 0, result := .refused .agent }) ∧
    (s.agent = .producer → s.cfg.traceEnabled = false →
      exec (.push w) s = .next { s with resp := 0, result := .ok }) ∧
    (s.agent = .producer → s.cfg.traceEnabled = true →
      (s.cfg.capacity < s.depth.toNat → ∃ t, exec (.push w) s = .next t ∧ s.faultedFrom .invariant t) ∧
      (s.depth.toNat = s.cfg.capacity → exec (.push w) s = .next { s with resp := 0, result := .ok }) ∧
      (s.depth.toNat < s.cfg.capacity →
        ∃ m, exec (.push w) s = .next { s with mem := m, wi := s.wi + 1, resp := 1, result := .ok } ∧
          Memory.read m (slotOf s.cfg s.wi) = some w ∧
          ∀ a, a ≠ slotOf s.cfg s.wi → Memory.read m a = Memory.read s.mem a))

/-- R130, R131: DEPTH by the producer, the consumer or the host (for the UART: `IssuersWhereTheTablesDiffer`). -/
def Obligations.DepthReportsTheCount : Prop :=
  decode 0x0200000000#40 = .ok .depth ∧
  ∀ s : State, s.agent ≠ .uart →
    (s.cfg.traceEnabled = false → exec .depth s = .next { s with resp := 0, result := .ok }) ∧
    (s.cfg.traceEnabled = true →
      (s.cfg.capacity < s.depth.toNat → ∃ t, exec .depth s = .next t ∧ s.faultedFrom .invariant t) ∧
      (s.depth.toNat ≤ s.cfg.capacity →
        exec .depth s = .next { s with resp := s.wi - s.ri, result := .ok }))

/-- R120: the POP that REFILL performs inside TXSTEP: the word at the head and the state with `Q.ri` one on, or one of the three
faults; and that the port never takes it. The popped slot keeps its word, since no slot changes. -/
def Obligations.PopInsideRefill : Prop :=
  (∀ s : State,
    (s.depth.toNat = 0 → s.popWord = .error .popEmpty) ∧
    (s.cfg.capacity < s.depth.toNat → 0 < s.depth.toNat → s.popWord = .error .invariant) ∧
    (0 < s.depth.toNat → s.depth.toNat ≤ s.cfg.capacity →
      (Memory.read s.mem (slotOf s.cfg s.ri) = none → s.popWord = .error .readUnwritten) ∧
      (∀ w, Memory.read s.mem (slotOf s.cfg s.ri) = some w → s.popWord = .ok (w, { s with ri := s.ri + 1 })))) ∧
  decode 0x8100000000#40 = .ok .pop ∧
  (∀ (s : State) (x : Transaction) (rest : List Transaction), s.port = x :: rest → s.cfg.wellFormed = true →
    x.bits = 0x8100000000#40 →
      step s = .next
        { s with agent := x.issuer, port := rest, refused := true, resp := 0, result := .refused .internal })

/-- POP as an operation of its own, as the consumer performs it, answering the popped word. That it is run alone is the model's
choice (DESIGN CHOICE, notes/assumptions/10.md; 40_event_queue.md section 2, 30_encoding.md section 2). -/
def Obligations.PopTakesTheHeadWord : Prop :=
  ∀ s : State, s.agent = .consumer →
    (s.depth.toNat = 0 → ∃ t, exec .pop s = .next t ∧ s.faultedFrom .popEmpty t) ∧
    (s.cfg.capacity < s.depth.toNat → 0 < s.depth.toNat →
      ∃ t, exec .pop s = .next t ∧ s.faultedFrom .invariant t) ∧
    (0 < s.depth.toNat → s.depth.toNat ≤ s.cfg.capacity →
      (Memory.read s.mem (slotOf s.cfg s.ri) = none →
        ∃ t, exec .pop s = .next t ∧ s.faultedFrom .readUnwritten t) ∧
      (∀ w, Memory.read s.mem (slotOf s.cfg s.ri) = some w →
        exec .pop s = .next { s with ri := s.ri + 1, resp := w, result := .ok }))

/-- An accepted PUSH puts its word last in the queue, whatever the counters, across their wrap too (40_event_queue.md sections
1 and 4). -/
def Obligations.PushAppendsToTheQueue : Prop :=
  ∀ (w : Word) (s t : State), s.Inv → s.agent = .producer → s.cfg.traceEnabled = true →
    s.depth.toNat < s.cfg.capacity → exec (.push w) s = .next t →
      t.queued = s.queued ++ [w] ∧ t.depth.toNat = s.depth.toNat + 1

/-- POP answers the first word of the queue and leaves the rest in order, across the wrap of the counters too. That it is run
alone is the model's choice (DESIGN CHOICE, notes/assumptions/10.md; 40_event_queue.md sections 2 and 4). -/
def Obligations.PopRemovesTheFirstOfTheQueue : Prop :=
  ∀ s : State, s.Inv → s.agent = .consumer → 0 < s.depth.toNat →
    ∃ t, exec .pop s = .next t ∧ s.queued = t.resp :: t.queued ∧ t.depth.toNat + 1 = s.depth.toNat ∧
      t.result = .ok

/-- The queue of a state that meets the invariant has as many words as DEPTH reports (40_event_queue.md section 3). -/
def Obligations.QueueLengthIsTheDepth : Prop := ∀ s : State, s.Inv → s.queued.length = s.depth.toNat

/-! ### FrameBuilder -/

/-- R90, R91: the plaintext frame of a word under a valid configuration. -/
def Obligations.PlainFrameLayout : Prop :=
  ∀ (c : Config) (w : Word), c.wellFormed = true →
    ∃ p : Nat → Byte, (∀ i < 4, p i = w.extractLsb' (8 * c.payloadLayout.getD i 0) 8) ∧
      (plainFrame c w).toList =
        [BitVec.ofNat 8 c.startByte, BitVec.ofNat 8 c.localAddr, BitVec.ofNat 8 c.serverAddr,
          BitVec.ofNat 8 c.startByte ^^^ BitVec.ofNat 8 c.localAddr ^^^ BitVec.ofNat 8 c.serverAddr ^^^ p 0 ^^^ p 1 ^^^
            p 2 ^^^ p 3,
          p 0, p 1, p 2, p 3] ∧
      (plainFrame c w).b0.toNat = c.startByte ∧ (plainFrame c w).b1.toNat = c.localAddr ∧
      (plainFrame c w).b2.toNat = c.serverAddr

/-- Every byte of the word appears exactly once in the payload (30_encoding.md section 4). -/
def Obligations.PayloadIsThePermutedWord : Prop :=
  ∀ (c : Config) (w : Word), c.wellFormed = true →
    [(plainFrame c w).b4, (plainFrame c w).b5, (plainFrame c w).b6, (plainFrame c w).b7].Perm
      [w.extractLsb' 0 8, w.extractLsb' 8 8, w.extractLsb' 16 8, w.extractLsb' 24 8]

/-- R147: the eight bytes of every plaintext frame cancel under exclusive-or. -/
def Obligations.PlainFrameXorsToZero : Prop := ∀ (c : Config) (w : Word), (plainFrame c w).xorAll = 0

/-- Under a valid configuration: with `ENCRYPT`, deciphering the wire bytes gives the plaintext frame back, whose bytes cancel; without it, the wire bytes
are the plaintext frame (41_frame_builder.md sections 3 and 4). -/
def Obligations.WireFrameDeciphers : Prop :=
  ∀ (c : Config) (w : Word), c.wellFormed = true →
    (c.encrypt = true →
      cipherDec c (wireFrame c w) (keyBlock c) = plainFrame c w ∧
        (cipherDec c (wireFrame c w) (keyBlock c)).xorAll = 0) ∧
    (c.encrypt = false → wireFrame c w = plainFrame c w)

/-- R140, R141, R142, R143: the REFILL that TXSTEP performs: the remaining count and the state after it, or the fault of its
POP; the plaintext frame it builds; and that the port never takes it. -/
def Obligations.RefillInsideTxstep : Prop :=
  (∀ s : State,
    (s.cur.val < 8 → s.refillFrame = .ok (8 - s.cur.val, s)) ∧
    (s.cur.val = 8 → s.depth.toNat = 0 → s.refillFrame = .ok (0, s)) ∧
    (s.cur.val = 8 → 0 < s.depth.toNat →
      (∀ c, s.popWord = .error c → s.refillFrame = .error c) ∧
      (s.depth.toNat ≤ s.cfg.capacity → ∀ w, Memory.read s.mem (slotOf s.cfg s.ri) = some w →
        ∃ f : Block,
          f = (if s.cfg.encrypt then cipherEnc s.cfg (plainFrame s.cfg w) (keyBlock s.cfg)
            else plainFrame s.cfg w) ∧
          s.refillFrame = .ok (8,
            { s with
              ri := s.ri + 1
              buf := ⟨some f.b0, some f.b1, some f.b2, some f.b3, some f.b4, some f.b5, some f.b6, some f.b7⟩
              cur := 0 })))) ∧
  (∀ (c : Config) (w : Word),
    [(plainFrame c w).b0, (plainFrame c w).b1, (plainFrame c w).b2] =
      [BitVec.ofNat 8 c.startByte, BitVec.ofNat 8 c.localAddr, BitVec.ofNat 8 c.serverAddr] ∧
    (plainFrame c w).b3 = BitVec.ofNat 8 c.startByte ^^^ BitVec.ofNat 8 c.localAddr ^^^ BitVec.ofNat 8 c.serverAddr ^^^
      (plainFrame c w).b4 ^^^ (plainFrame c w).b5 ^^^ (plainFrame c w).b6 ^^^ (plainFrame c w).b7 ∧
    [(plainFrame c w).b4, (plainFrame c w).b5, (plainFrame c w).b6, (plainFrame c w).b7] =
      [0, 1, 2, 3].map fun i => w.extractLsb' (8 * c.payloadLayout.getD i 0) 8) ∧
  decode 0x8000000000#40 = .ok .refill ∧
  (∀ (s : State) (x : Transaction) (rest : List Transaction), s.port = x :: rest → s.cfg.wellFormed = true →
    x.bits = 0x8000000000#40 →
      step s = .next
        { s with agent := x.issuer, port := rest, refused := true, resp := 0, result := .refused .internal })

/-- REFILL as an operation of its own, as the consumer performs it, answering the remaining count. That it is run alone is the
model's choice (DESIGN CHOICE, notes/assumptions/10.md; 41_frame_builder.md section 1, 30_encoding.md section 2). -/
def Obligations.RefillBuildsTheNextFrame : Prop :=
  ∀ s : State, s.agent = .consumer →
    (s.cur.val < 8 → exec .refill s = .next { s with resp := BitVec.ofNat 32 (8 - s.cur.val), result := .ok }) ∧
    (s.cur.val = 8 → s.depth.toNat = 0 → exec .refill s = .next { s with resp := 0, result := .ok }) ∧
    (s.cur.val = 8 → 0 < s.depth.toNat →
      (s.cfg.capacity < s.depth.toNat → ∃ t, exec .refill s = .next t ∧ s.faultedFrom .invariant t) ∧
      (s.depth.toNat ≤ s.cfg.capacity →
        (Memory.read s.mem (slotOf s.cfg s.ri) = none →
          ∃ t, exec .refill s = .next t ∧ s.faultedFrom .readUnwritten t) ∧
        (∀ w, Memory.read s.mem (slotOf s.cfg s.ri) = some w →
          ∃ f : Block,
            f = (if s.cfg.encrypt then cipherEnc s.cfg (plainFrame s.cfg w) (keyBlock s.cfg)
              else plainFrame s.cfg w) ∧
            exec .refill s = .next
              { s with
                ri := s.ri + 1
                buf := ⟨some f.b0, some f.b1, some f.b2, some f.b3, some f.b4, some f.b5, some f.b6, some f.b7⟩
                cur := 0
                resp := 8
                result := .ok })))

/-! ### TransmitCursor and the collaborator events -/

/-- R171, R172, R173, R175: TXSTEP by the consumer, on every path but those of states that no run reaches
(`TxstepOutsideTheInvariant`). -/
def Obligations.TxstepSendsOneByteOrGoesIdle : Prop :=
  decode 0x0400000000#40 = .ok .txstep ∧
  ∀ s : State,
    (s.agent ≠ .consumer →
      exec .txstep s = .next { s with refused := true, resp := 0, result := .refused .agent }) ∧
    (s.agent = .consumer → s.cfg.traceEnabled = false →
      exec .txstep s = .next { s with resp := 0, result := .ok }) ∧
    (s.agent = .consumer → s.cfg.traceEnabled = true → s.regEmpty = false →
      exec .txstep s = .next { s with resp := 0, result := .ok }) ∧
    (s.agent = .consumer → s.cfg.traceEnabled = true → s.regEmpty = true →
      (∀ (h : s.cur.val < 8) (b : Byte), s.buf.get ⟨s.cur.val, h⟩ = some b →
        exec .txstep s = .next
          { s with
            cur := ⟨s.cur.val + 1, by omega⟩
            wire := s.wire ++ [b]
            log := s.log ++ [.tx b, .ieEn]
            regEmpty := false
            txState := true
            ie := true
            resp := 0
            result := .ok }) ∧
      (s.cur.val = 8 → s.depth.toNat = 0 →
        exec .txstep s = .next
          { s with log := s.log ++ [.ieDis], ie := false, txState := false, resp := 0, result := .ok }) ∧
      (∀ w : Word, s.cur.val = 8 → 0 < s.depth.toNat → s.depth.toNat ≤ s.cfg.capacity →
        Memory.read s.mem (slotOf s.cfg s.ri) = some w →
          exec .txstep s = .next
            { s with
              ri := s.ri + 1
              buf := (wireFrame s.cfg w).map some
              cur := 1
              wire := s.wire ++ [(wireFrame s.cfg w).b0]
              log := s.log ++ [.tx (wireFrame s.cfg w).b0, .ieEn]
              regEmpty := false
              txState := true
              ie := true
              resp := 0
              result := .ok }))

/-- TXSTEP in states that no run reaches: a fault of POP leaves everything but the mark, and the response is the 0 that R171 sets
first (notes/assumptions/5.md), the whole TXSTEP ending there (DESIGN CHOICE, notes/assumptions/3.md); and an unwritten frame
byte is sent as some byte, the free value of item U6 (DESIGN CHOICE, notes/assumptions/6.md), with every other effect of the
Sending path (42_transmit_cursor.md section 2, 60_exceptions.md section 1, 93_implementation_defined.md part 1). -/
def Obligations.TxstepOutsideTheInvariant : Prop :=
  ∀ s : State, s.agent = .consumer → s.cfg.traceEnabled = true → s.regEmpty = true →
    (s.cur.val = 8 → 0 < s.depth.toNat → s.cfg.capacity < s.depth.toNat →
      ∃ t, exec .txstep s = .next t ∧ s.faultedFrom .invariant t ∧ t.resp = 0 ∧ t.free = s.free) ∧
    (s.cur.val = 8 → 0 < s.depth.toNat → s.depth.toNat ≤ s.cfg.capacity →
      Memory.read s.mem (slotOf s.cfg s.ri) = none →
        ∃ t, exec .txstep s = .next t ∧ s.faultedFrom .readUnwritten t ∧ t.resp = 0 ∧ t.free = s.free) ∧
    (∀ h : s.cur.val < 8, s.buf.get ⟨s.cur.val, h⟩ = none →
      ∃ b, exec .txstep s = .next
        { s with
          cur := ⟨s.cur.val + 1, by omega⟩
          wire := s.wire ++ [b]
          log := s.log ++ [.tx b, .ieEn]
          regEmpty := false
          txState := true
          ie := true
          resp := 0
          result := .ok
          free := s.free + 1 })

/-- R179, R180: STATUS by the producer, the consumer or the host (for the UART: `IssuersWhereTheTablesDiffer`). -/
def Obligations.StatusReportsTheFlag : Prop :=
  decode 0x0300000000#40 = .ok .status ∧
  ∀ s : State, s.agent ≠ .uart →
    (s.cfg.traceEnabled = false → exec .status s = .next { s with resp := 0, result := .ok }) ∧
    (s.cfg.traceEnabled = true → s.txState = true → exec .status s = .next { s with resp := 1, result := .ok }) ∧
    (s.cfg.traceEnabled = true → s.txState = false → exec .status s = .next { s with resp := 0, result := .ok })

/-- R181: TXDONE by the UART on an enabled block (on a disabled one: `CollaboratorEventsInADisabledBlock`). -/
def Obligations.TxdoneEmptiesTheRegister : Prop :=
  decode 0x0500000000#40 = .ok .txdone ∧
  ∀ s : State,
    (s.agent = .uart → s.cfg.traceEnabled = true →
      exec .txdone s = .next { s with regEmpty := true, resp := 0, result := .ok }) ∧
    (s.agent ≠ .uart →
      exec .txdone s = .next { s with refused := true, resp := 0, result := .refused .agent })

/-- IEON by the host on an enabled block, not logged (42_transmit_cursor.md section 4); by the producer:
`IssuersWhereTheTablesDiffer`, on a disabled block: `CollaboratorEventsInADisabledBlock`. -/
def Obligations.IeonEnablesTheInterrupt : Prop :=
  decode 0x0600000000#40 = .ok .ieon ∧
  ∀ s : State,
    (s.agent = .host → s.cfg.traceEnabled = true →
      exec .ieon s = .next { s with ie := true, resp := 0, result := .ok }) ∧
    (s.agent = .consumer ∨ s.agent = .uart →
      exec .ieon s = .next { s with refused := true, resp := 0, result := .refused .agent })

/-- TXDONE and IEON have their effect on a disabled block too. The model's reading, against a remark of R230 (DEDUCED,
notes/assumptions/18.md; 42_transmit_cursor.md section 4, 70_reset_and_hazards.md section 3). -/
def Obligations.CollaboratorEventsInADisabledBlock : Prop :=
  ∀ s : State, s.cfg.traceEnabled = false →
    (s.agent = .uart → exec .txdone s = .next { s with regEmpty := true, resp := 0, result := .ok }) ∧
    (s.agent = .host → exec .ieon s = .next { s with ie := true, resp := 0, result := .ok })

/-- A step only appends to the wire and to the log, at most one byte and at most one `TX` entry for it (42_transmit_cursor.md
section 5). -/
def Obligations.OneByteInAStep : Prop :=
  ∀ s t : State, step s = .next t →
    ∃ (bs : List Byte) (es : List Event), t.wire = s.wire ++ bs ∧ t.log = s.log ++ es ∧ bs.length ≤ 1 ∧
      sentBytes es = bs ∧ (s.served ≠ some .txstep → es = [])

/-- After every TXSTEP of an enabled block in a state of a run, the register-empty request is not pending
(60_exceptions.md section 2). -/
def Obligations.TxstepLeavesNoRequestPending : Prop :=
  ∀ s t : State, s.Inv → s.cfg.traceEnabled = true → s.served = some .txstep → step s = .next t →
    t.irqPending = false

/-- After every TXSTEP that passes the busy check, `U.ie = T.txState`, and the state is Sending exactly if a byte was left to
send (42_transmit_cursor.md section 5). -/
def Obligations.TxstepPairsFlagAndEnable : Prop :=
  ∀ s t : State, s.Inv → s.cfg.traceEnabled = true → s.regEmpty = true → s.served = some .txstep → step s = .next t →
    t.ie = t.txState ∧ (t.cursorState = .sending ↔ s.cur.val < 8 ∨ 0 < s.depth.toNat)

/-! ### Reset -/

/-- R230, R231: RESET by the host initialises the context, whatever the configuration, and leaves the collaborator, the log and
the marks alone; the TXSTEP that then finds the register empty goes idle and masks the interrupt. -/
def Obligations.ResetInitialisesTheContext : Prop :=
  decode 0x0700000000#40 = .ok .reset ∧
  ∀ s : State,
    (s.agent ≠ .host → exec .reset s = .next { s with refused := true, resp := 0, result := .refused .agent }) ∧
    (s.agent = .host →
      ∃ t, exec .reset s = .next t ∧
        t = { s with
          wi := 0
          ri := 0
          mem := []
          buf := ⟨some (BitVec.ofNat 8 s.cfg.startByte), some (BitVec.ofNat 8 s.cfg.localAddr),
            some (BitVec.ofNat 8 s.cfg.serverAddr), none, none, none, none, none⟩
          cur := 8
          txState := false
          resp := 0
          result := .ok } ∧
        (∀ a, Memory.read t.mem a = none) ∧
        (s.cfg.traceEnabled = true → s.regEmpty = true →
          exec .txstep { t with agent := .consumer } = .next
            { t with agent := .consumer, log := s.log ++ [.ieDis], ie := false }))

/-- R35, R39, R232: the power-on state under every configuration; the model's reset state is the power-on state of its own
configuration, whatever that is (notes/assumptions/1.md). -/
def Obligations.PowerOnValues : Prop :=
  (∀ c : Config,
    (State.powerOn c).cfg = c ∧ (State.powerOn c).wi = 0 ∧ (State.powerOn c).ri = 0 ∧ (State.powerOn c).depth = 0 ∧
    (∀ a, Memory.read (State.powerOn c).mem a = none) ∧
    (State.powerOn c).buf.toList =
      [some (BitVec.ofNat 8 c.startByte), some (BitVec.ofNat 8 c.localAddr), some (BitVec.ofNat 8 c.serverAddr),
        none, none, none, none, none] ∧
    (State.powerOn c).cur.val = 8 ∧ (State.powerOn c).txState = false ∧ (State.powerOn c).cursorState = .idle ∧
    (State.powerOn c).regEmpty = true ∧ (State.powerOn c).ie = false ∧ (State.powerOn c).irqPending = false ∧
    (State.powerOn c).wire = [] ∧ (State.powerOn c).log = [] ∧ (State.powerOn c).fault = none ∧ (State.powerOn c).refused = false) ∧
  State.reset = State.powerOn State.reset.cfg

/-! ### The machine as a whole -/

/-- The invariant holds at power-on under every valid configuration, and at the model's reset state. -/
def Obligations.PowerOnMeetsTheInvariant : Prop :=
  (∀ c : Config, c.wellFormed = true → (State.powerOn c).Inv) ∧ State.reset.Inv

/-- Every step keeps the invariant: canonical memory within capacity, depth within capacity, waiting slots written, the cursor
in 1..8 with its bytes written, the flag and the interrupt enable paired, the wire equal to the logged bytes. -/
def Obligations.StepKeepsTheInvariant : Prop := ∀ s t : State, s.Inv → step s = .next t → t.Inv

/-- No step of a state that meets the invariant raises a fault or uses a free value (60_exceptions.md section 1). -/
def Obligations.FaultsAreNotReached : Prop :=
  ∀ s t : State, s.Inv → step s = .next t → t.fault = s.fault ∧ t.free = s.free ∧ ∀ c, t.result ≠ .fault c

/-- R32: the marks are sticky; no step clears one, RESET included. -/
def Obligations.MarksAreSticky : Prop :=
  ∀ s t : State, step s = .next t → (s.refused = true → t.refused = true) ∧ (s.fault ≠ none → t.fault ≠ none)

/-- Each piece of the block's and the collaborator's state, the log and the marks change only in a step that serves one of their
writers (10_state.md sections 1 to 5, 20_memory.md section 1, 60_exceptions.md sections 1 and 2). -/
def Obligations.OnlyItsWritersChangeState : Prop :=
  ∀ s t : State, step s = .next t →
    t.cfg = s.cfg ∧
    (t.wi = s.wi ∨ (∃ w, s.served = some (.push w)) ∨ s.served = some .reset) ∧
    (t.mem = s.mem ∨ (∃ w, s.served = some (.push w)) ∨ s.served = some .reset) ∧
    ((t.ri = s.ri ∧ t.buf = s.buf ∧ t.cur = s.cur ∧ t.txState = s.txState) ∨ s.served = some .txstep ∨
      s.served = some .reset) ∧
    (t.ie = s.ie ∨ s.served = some .txstep ∨ s.served = some .ieon) ∧
    (t.regEmpty = s.regEmpty ∨ s.served = some .txstep ∨ s.served = some .txdone) ∧
    ((t.wire = s.wire ∧ t.log = s.log) ∨ s.served = some .txstep) ∧
    (t.fault = s.fault ∨ (∃ w, s.served = some (.push w)) ∨ s.served = some .depth ∨ s.served = some .txstep) ∧
    (t.refused = s.refused ∨ s.served = none)

/-- A step that ends in a fault leaves its own code in the mark, also where another code was recorded before. The model's choice:
the spec says only that the mark is never cleared (DESIGN CHOICE, notes/assumptions/3.md; 10_state.md section 5,
60_exceptions.md section 1). -/
def Obligations.LaterFaultReplacesAnEarlierOne : Prop :=
  (∀ (i : Instr) (s t : State) (c : FaultCode), exec i s = .next t → t.result = .fault c → t.fault = some c) ∧
    ∀ (s t : State) (c : FaultCode), step s = .next t → t.result = .fault c → t.fault = some c

/-- What a step serves is issued by an agent that owns it: PUSH by the producer, TXSTEP by the consumer, TXDONE by the UART,
RESET by the host (60_exceptions.md section 4). -/
def Obligations.ServedOperationsBelongToTheirAgents : Prop :=
  ∀ (s : State) (x : Transaction) (rest : List Transaction) (i : Instr), s.port = x :: rest → s.served = some i →
    (∀ w, i = .push w → x.issuer = .producer) ∧ (i = .txstep → x.issuer = .consumer) ∧
    (i = .txdone → x.issuer = .uart) ∧ (i = .reset → x.issuer = .host) ∧
    (i = .ieon → x.issuer = .producer ∨ x.issuer = .host) ∧ i ≠ .refill ∧ i ≠ .pop

/-- Between its own pushes the producer sees the depth only fall, and between its own pops the consumer sees it only grow
(40_event_queue.md section 3). -/
def Obligations.DepthMovesOneWayForEachAgent : Prop :=
  ∀ s t : State, s.Inv → step s = .next t →
    ((∀ w, s.served ≠ some (.push w)) → t.depth.toNat ≤ s.depth.toNat) ∧
    (s.served ≠ some .txstep → s.served ≠ some .reset → s.depth.toNat ≤ t.depth.toNat)

/-- No byte is lost, duplicated or reordered: what has been sent, what is in flight and what waits stays one stream. An
accepted PUSH adds its frame at the end, RESET cuts the stream to what is on the wire, and no other step changes it
(20_memory.md section 5, 40_event_queue.md section 4, 42_transmit_cursor.md section 5, 70_reset_and_hazards.md section 2). -/
def Obligations.StreamIsKept : Prop :=
  ∀ s t : State, s.Inv → step s = .next t →
    t.stream = match s.served with
      | some (.push w) =>
        if s.cfg.traceEnabled = true ∧ s.depth.toNat < s.cfg.capacity then s.stream ++ (wireFrame s.cfg w).toList
        else s.stream
      | some .reset => s.wire
      | _ => s.stream

/-- Ticks send the whole stream: from any state of a run of an enabled block, one TICK for each byte in flight or waiting puts
exactly the stream on the wire, in order, with one `TX` and one `IE_EN` logged for each byte; the TICK after them goes idle
(42_transmit_cursor.md section 5). -/
def Obligations.TicksSendTheWholeStream : Prop :=
  ∀ (s : State) (rest : List Transaction) (n : Nat), s.Inv → s.cfg.traceEnabled = true →
    n = (8 - s.cur.val) + 8 * s.depth.toNat →
    (s.port = ticksOps n ++ rest →
      ∃ t, Sys2Proof.core.run (2 * n) s = .next t ∧ t.wire = s.stream ∧ t.drained ∧ t.port = rest ∧
        t.log = s.log ++ (s.stream.drop s.wire.length).flatMap (fun b => [.tx b, .ieEn]) ∧
        (0 < n → t.txState = true)) ∧
    (s.port = ticksOps (n + 1) ++ rest →
      ∃ t, Sys2Proof.core.run (2 * n + 2) s = .next t ∧ t.wire = s.stream ∧ t.drained ∧ t.port = rest ∧
        t.log = s.log ++ (s.stream.drop s.wire.length).flatMap (fun b => [.tx b, .ieEn]) ++ [.ieDis] ∧
        t.txState = false ∧ t.ie = false ∧ t.regEmpty = true)

/-- A kick sends: with the register empty and a word waiting in a drained block, TXSTEP takes the word off the queue and puts
the first byte of its frame on the wire (42_transmit_cursor.md section 4, 70_reset_and_hazards.md section 3). -/
def Obligations.KickSendsTheFirstWaitingWord : Prop :=
  ∀ s : State, s.Inv → s.agent = .consumer → s.cfg.traceEnabled = true → s.regEmpty = true → s.cur = 8 →
    0 < s.depth.toNat →
      ∃ w t, exec .txstep s = .next t ∧ s.queued = w :: t.queued ∧ t.wire = s.wire ++ [(wireFrame s.cfg w).b0] ∧
        t.unsent = (wireFrame s.cfg w).toList.drop 1 ∧ t.txState = true ∧ t.ie = true

/-- Once the interrupt is masked and no kick is asked for, nothing but an IEON makes the block speak again under the
interrupt-driven driver: no step sends, logs or enables anything, and the request stays not pending (42_transmit_cursor.md
section 5, 60_exceptions.md section 2). -/
def Obligations.MaskedBlockStaysSilent : Prop :=
  ∀ (s t : State) (k : Kicks), s.ie = false → k.asked = 0 → s.interruptDriven k → s.served ≠ some .ieon →
    step s = .next t → t.ie = false ∧ t.irqPending = false ∧ t.wire = s.wire ∧ t.log = s.log

/-- Idle convergence: with the last byte sent and nothing waiting, and no kick asked for, under the interrupt-driven driver and
without PUSH, IEON or RESET, the first TXSTEP that finds the register empty goes idle and logs the one `IE_DIS`; before it and
after it nothing is sent or logged, and after it the request is never pending (42_transmit_cursor.md section 5). -/
def Obligations.IdleConvergence : Prop :=
  ∀ (s t : State) (n : Nat), s.Inv → s.cfg.traceEnabled = true → s.cur.val = 8 → s.depth.toNat = 0 → s.txState = true →
    State.interruptDrivenRun n Kicks.none s →
    State.along (fun u => (∀ w, u.served ≠ some (.push w)) ∧ u.served ≠ some .ieon ∧ u.served ≠ some .reset) n s →
    Sys2Proof.core.run n s = .next t →
      t.wire = s.wire ∧
      (State.along (fun u => u.served = some .txstep → u.regEmpty = false) n s →
        t.log = s.log ∧ t.txState = true ∧ t.ie = true) ∧
      (¬ State.along (fun u => u.served = some .txstep → u.regEmpty = false) n s →
        t.log = s.log ++ [.ieDis] ∧ t.txState = false ∧ t.ie = false ∧ t.irqPending = false)

/-- A PUSH and a TXSTEP between which the depth leaves room and a word take effect in either order with the same result: the
two serialisations end in the same state of the block, the collaborator and the log, and the PUSH is accepted in both
(20_memory.md section 5). -/
def Obligations.PushAndTxstepCommute : Prop :=
  ∀ (w : Word) (s : State), s.Inv → s.cfg.traceEnabled = true → 0 < s.depth.toNat →
    s.depth.toNat < s.cfg.capacity →
      ∃ p pt x xp, exec (.push w) { s with agent := .producer } = .next p ∧
        exec .txstep { p with agent := .consumer } = .next pt ∧
        exec .txstep { s with agent := .consumer } = .next x ∧
        exec (.push w) { x with agent := .producer } = .next xp ∧
        p.resp = 1 ∧ xp.resp = 1 ∧ { pt with agent := xp.agent, resp := xp.resp } = xp
end

