-- ==== Sys2Proof/Laws/Cipher.lean ====
section
/-! SUPPORT. The cipher of a configuration: the check of the round-trip law is exact, and every pair of functions is the cipher
of some configuration. -/

namespace Sys2Proof

theorem encXor_encXor (b k : Block) : encXor (encXor b k) k = b := by simp [encXor, Octets.zipWith]

/-- Where a table lists nothing it is `ENC_XOR`. -/
theorem CipherTable.apply_of_unlisted {t : CipherTable} {b k : Block} (h : ∀ e ∈ t, (e.block, e.key) ≠ (b, k)) :
    t.apply b k = encXor b k := by
  induction t with
  | nil => rfl
  | cons e es ih =>
    have he := h e (by simp)
    rw [CipherTable.apply, if_neg (fun hc => he (by rw [hc.1, hc.2]))]
    exact ih fun e' h' => h e' (by simp [h'])

/-- The check of R206's fifth item decides the round-trip law of R14. -/
theorem Config.cipherOk_iff (c : Config) :
    c.cipherOk = true ↔ ∀ b k, c.dec.apply (c.enc.apply b k) k = b := by
  simp only [Config.cipherOk, List.all_eq_true, decide_eq_true_eq]
  refine ⟨fun h b k => ?_, fun h p _ => h p.1 p.2⟩
  by_cases he : ∃ e ∈ c.enc, (e.block, e.key) = (b, k)
  · obtain ⟨e, hm, heq⟩ := he
    exact h (b, k) (List.mem_append_left _ (heq ▸ List.mem_map_of_mem hm))
  · push Not at he
    have henc := CipherTable.apply_of_unlisted he
    by_cases hd : ∃ e ∈ c.dec, (e.block, e.key) = (encXor b k, k)
    · obtain ⟨e, hm, heq⟩ := hd
      obtain ⟨h1, h2⟩ := Prod.mk.inj heq
      refine h (b, k) (List.mem_append_right _ (List.mem_map.mpr ⟨e, hm, ?_⟩))
      rw [h1, h2, encXor_encXor]
    · push Not at hd
      rw [henc, CipherTable.apply_of_unlisted hd, encXor_encXor]

/-- A valid configuration's cipher satisfies the round-trip law. -/
theorem Config.roundTrip {c : Config} (h : c.wellFormed = true) (b k : Block) :
    Machine.cipherDec c (Machine.cipherEnc c b k) k = b := by
  simp only [Config.wellFormed, Bool.and_eq_true] at h
  exact (Config.cipherOk_iff c).mp h.2 b k

/-- A table that lists a function's values at some points agrees with it there. -/
theorem CipherTable.apply_map (f : Block → Block → Block) (ps : List (Block × Block)) {b k : Block} (h : (b, k) ∈ ps) :
    CipherTable.apply (ps.map fun p => ⟨p.1, p.2, f p.1 p.2⟩) b k = f b k := by
  induction ps with
  | nil => simp at h
  | cons p ps ih =>
    rw [List.map_cons, CipherTable.apply]
    split
    · next hc =>
      obtain ⟨rfl, rfl⟩ := hc
      rfl
    · next hc =>
      rcases List.mem_cons.mp h with rfl | h'
      · exact absurd ⟨rfl, rfl⟩ hc
      · exact ih h'

theorem block_finite : Finite Block :=
  Finite.of_injective
    (fun b : Block => (b.b0.toFin, b.b1.toFin, b.b2.toFin, b.b3.toFin, b.b4.toFin, b.b5.toFin, b.b6.toFin, b.b7.toFin))
    fun x y h => by
      obtain ⟨x0, x1, x2, x3, x4, x5, x6, x7⟩ := x
      obtain ⟨y0, y1, y2, y3, y4, y5, y6, y7⟩ := y
      simp only [Prod.mk.injEq] at h
      obtain ⟨h0, h1, h2, h3, h4, h5, h6, h7⟩ := h
      congr <;> exact BitVec.eq_of_toFin_eq ‹_›

/-- Every total function of a block and a key is the function of some table: no `ENC` and no `DEC` is left out. -/
theorem CipherTable.complete (f : Block → Block → Block) : ∃ t : CipherTable, t.apply = f := by
  have := block_finite
  have := Fintype.ofFinite (Block × Block)
  refine ⟨(Finset.univ : Finset (Block × Block)).toList.map fun p => ⟨p.1, p.2, f p.1 p.2⟩, ?_⟩
  funext b k
  exact CipherTable.apply_map f _ (by simp)

end Sys2Proof
end

