-- ==== Sys2Proof/Laws/Encoding.lean ====
section
/-! SUPPORT. The two fields of a transaction, and what they are as numbers. -/

namespace Sys2Proof

theorem toNat_fields (op : BitVec 8) (opnd : Word) : (op ++ opnd).toNat = op.toNat * 2 ^ 32 + opnd.toNat := by
  rw [BitVec.toNat_append, ← Nat.shiftLeft_add_eq_or_of_lt opnd.isLt, Nat.shiftLeft_eq]

theorem opcodeField_toNat (t : BitVec 40) : (opcodeField t).toNat = t.toNat / 2 ^ 32 := by
  simp only [opcodeField, BitVec.extractLsb'_toNat, Nat.shiftRight_eq_div_pow]
  omega

theorem operandField_toNat (t : BitVec 40) : (operandField t).toNat = t.toNat % 2 ^ 32 := by
  simp [operandField, BitVec.extractLsb'_toNat]

@[simp] theorem opcodeField_append (op : BitVec 8) (opnd : Word) : opcodeField (op ++ opnd) = op := by
  apply BitVec.eq_of_toNat_eq
  have := opnd.isLt
  rw [opcodeField_toNat, toNat_fields]
  omega

@[simp] theorem operandField_append (op : BitVec 8) (opnd : Word) : operandField (op ++ opnd) = opnd := by
  apply BitVec.eq_of_toNat_eq
  have := opnd.isLt
  rw [operandField_toNat, toNat_fields]
  omega

/-- A transaction is its two fields. -/
theorem fields_append (t : BitVec 40) : opcodeField t ++ operandField t = t := by
  apply BitVec.eq_of_toNat_eq
  rw [toNat_fields, opcodeField_toNat, operandField_toNat]
  omega

end Sys2Proof
end

