-- ==== Sys2Proof/Laws/Memory.lean ====
section
/-! SUPPORT. Queue storage: a read after a write, and that a write keeps the canonical form and the range of the slots. -/

namespace Sys2Proof.Machine

@[simp] theorem Memory.read_nil (a : Nat) : Memory.read [] a = none := rfl

theorem Memory.read_cons (b : Nat) (v : Word) (m : Memory) (a : Nat) :
    Memory.read ((b, v) :: m) a = if b = a then some v else Memory.read m a := rfl

/-- A write leaves the slot holding the word and every other slot as it was, whatever the list. -/
theorem Memory.read_write (m : Memory) (a b : Nat) (w : Word) :
    Memory.read (Memory.write m a w) b = if b = a then some w else Memory.read m b := by
  induction m with
  | nil => simp [Memory.write, Memory.read, eq_comm]
  | cons p m ih =>
    obtain ⟨c, v⟩ := p
    unfold Memory.write
    by_cases hlt : a < c
    · simp only [hlt, if_true, Memory.read_cons]
      by_cases hb : b = a
      · simp [hb]
      · simp [hb, Ne.symm hb]
    · by_cases heq : a = c
      · subst heq
        simp only [hlt, if_false, if_true, Memory.read_cons]
        by_cases hb : b = a
        · simp [hb]
        · simp [hb, Ne.symm hb]
      · simp only [hlt, heq, if_false, Memory.read_cons, ih]
        by_cases hb : b = a
        · subst hb
          simp [Ne.symm heq]
        · simp [hb]

@[simp] theorem Memory.read_write_same (m : Memory) (a : Nat) (w : Word) :
    Memory.read (Memory.write m a w) a = some w := by
  simp [Memory.read_write]

theorem Memory.read_write_other (m : Memory) {a b : Nat} (w : Word) (h : b ≠ a) :
    Memory.read (Memory.write m a w) b = Memory.read m b := by
  simp [Memory.read_write, h]

/-- The entries of a written memory are the new one and old ones. -/
theorem Memory.mem_write {m : Memory} {a : Nat} {w : Word} {p : Nat × Word} (h : p ∈ Memory.write m a w) :
    p = (a, w) ∨ p ∈ m := by
  induction m with
  | nil => simpa [Memory.write] using h
  | cons q m ih =>
    obtain ⟨c, v⟩ := q
    unfold Memory.write at h
    split at h
    · simpa using h
    · split at h
      · rcases List.mem_cons.mp h with h | h
        · exact .inl h
        · exact .inr (List.mem_cons_of_mem _ h)
      · rcases List.mem_cons.mp h with h | h
        · exact .inr (by simp [h])
        · exact (ih h).imp_right (List.mem_cons_of_mem _)

/-- A write keeps the canonical form. -/
theorem Memory.write_wf {m : Memory} (h : m.wf) (a : Nat) (w : Word) : Memory.wf (Memory.write m a w) := by
  induction m with
  | nil => simp [Memory.write, Memory.wf]
  | cons q m ih =>
    obtain ⟨c, v⟩ := q
    obtain ⟨hc, hm⟩ := List.pairwise_cons.mp h
    unfold Memory.write
    split
    · next hlt =>
      refine List.pairwise_cons.mpr ⟨fun p hp => ?_, h⟩
      rcases List.mem_cons.mp hp with hp | hp
      · simpa [hp] using hlt
      · exact lt_trans hlt (hc p hp)
    · split
      · next heq => subst heq; exact List.pairwise_cons.mpr ⟨hc, hm⟩
      · next hlt hne =>
        refine List.pairwise_cons.mpr ⟨fun p hp => ?_, ih hm⟩
        rcases Memory.mem_write hp with hp | hp
        · simp only [hp]; omega
        · exact hc p hp

/-- A write to an existing slot keeps every entry at an existing slot. -/
theorem Memory.write_slots {m : Memory} {n a : Nat} (h : ∀ p ∈ m, p.1 < n) (ha : a < n) (w : Word) :
    ∀ p ∈ Memory.write m a w, p.1 < n := by
  intro p hp
  rcases Memory.mem_write hp with hp | hp
  · simpa [hp] using ha
  · exact h p hp

end Sys2Proof.Machine
end

