-- ==== Sys2Proof/Laws/State.lean ====
section
/-! SUPPORT. What each shared update of the state leaves in each field, one lemma per field and update. -/

namespace Sys2Proof.Machine

@[simp] theorem State.respond_cfg (v : Word) (s : State) : (s.respond v).cfg = s.cfg := rfl
@[simp] theorem State.respond_mem (v : Word) (s : State) : (s.respond v).mem = s.mem := rfl
@[simp] theorem State.respond_wi (v : Word) (s : State) : (s.respond v).wi = s.wi := rfl
@[simp] theorem State.respond_ri (v : Word) (s : State) : (s.respond v).ri = s.ri := rfl
@[simp] theorem State.respond_buf (v : Word) (s : State) : (s.respond v).buf = s.buf := rfl
@[simp] theorem State.respond_cur (v : Word) (s : State) : (s.respond v).cur = s.cur := rfl
@[simp] theorem State.respond_txState (v : Word) (s : State) : (s.respond v).txState = s.txState := rfl
@[simp] theorem State.respond_regEmpty (v : Word) (s : State) : (s.respond v).regEmpty = s.regEmpty := rfl
@[simp] theorem State.respond_ie (v : Word) (s : State) : (s.respond v).ie = s.ie := rfl
@[simp] theorem State.respond_wire (v : Word) (s : State) : (s.respond v).wire = s.wire := rfl
@[simp] theorem State.respond_log (v : Word) (s : State) : (s.respond v).log = s.log := rfl
@[simp] theorem State.respond_fault (v : Word) (s : State) : (s.respond v).fault = s.fault := rfl
@[simp] theorem State.respond_refused (v : Word) (s : State) : (s.respond v).refused = s.refused := rfl
@[simp] theorem State.respond_resp (v : Word) (s : State) : (s.respond v).resp = v := rfl
@[simp] theorem State.respond_result (v : Word) (s : State) : (s.respond v).result = .ok := rfl
@[simp] theorem State.respond_agent (v : Word) (s : State) : (s.respond v).agent = s.agent := rfl
@[simp] theorem State.respond_port (v : Word) (s : State) : (s.respond v).port = s.port := rfl
@[simp] theorem State.respond_free (v : Word) (s : State) : (s.respond v).free = s.free := rfl

@[simp] theorem State.refuse_cfg (r : RefusalReason) (s : State) : (s.refuse r).cfg = s.cfg := rfl
@[simp] theorem State.refuse_mem (r : RefusalReason) (s : State) : (s.refuse r).mem = s.mem := rfl
@[simp] theorem State.refuse_wi (r : RefusalReason) (s : State) : (s.refuse r).wi = s.wi := rfl
@[simp] theorem State.refuse_ri (r : RefusalReason) (s : State) : (s.refuse r).ri = s.ri := rfl
@[simp] theorem State.refuse_buf (r : RefusalReason) (s : State) : (s.refuse r).buf = s.buf := rfl
@[simp] theorem State.refuse_cur (r : RefusalReason) (s : State) : (s.refuse r).cur = s.cur := rfl
@[simp] theorem State.refuse_txState (r : RefusalReason) (s : State) : (s.refuse r).txState = s.txState := rfl
@[simp] theorem State.refuse_regEmpty (r : RefusalReason) (s : State) : (s.refuse r).regEmpty = s.regEmpty := rfl
@[simp] theorem State.refuse_ie (r : RefusalReason) (s : State) : (s.refuse r).ie = s.ie := rfl
@[simp] theorem State.refuse_wire (r : RefusalReason) (s : State) : (s.refuse r).wire = s.wire := rfl
@[simp] theorem State.refuse_log (r : RefusalReason) (s : State) : (s.refuse r).log = s.log := rfl
@[simp] theorem State.refuse_fault (r : RefusalReason) (s : State) : (s.refuse r).fault = s.fault := rfl
@[simp] theorem State.refuse_refused (r : RefusalReason) (s : State) : (s.refuse r).refused = true := rfl
@[simp] theorem State.refuse_resp (r : RefusalReason) (s : State) : (s.refuse r).resp = 0 := rfl
@[simp] theorem State.refuse_result (r : RefusalReason) (s : State) : (s.refuse r).result = .refused r := rfl
@[simp] theorem State.refuse_agent (r : RefusalReason) (s : State) : (s.refuse r).agent = s.agent := rfl
@[simp] theorem State.refuse_port (r : RefusalReason) (s : State) : (s.refuse r).port = s.port := rfl
@[simp] theorem State.refuse_free (r : RefusalReason) (s : State) : (s.refuse r).free = s.free := rfl

@[simp] theorem State.raise_cfg (c : FaultCode) (s : State) : (s.raise c).cfg = s.cfg := rfl
@[simp] theorem State.raise_mem (c : FaultCode) (s : State) : (s.raise c).mem = s.mem := rfl
@[simp] theorem State.raise_wi (c : FaultCode) (s : State) : (s.raise c).wi = s.wi := rfl
@[simp] theorem State.raise_ri (c : FaultCode) (s : State) : (s.raise c).ri = s.ri := rfl
@[simp] theorem State.raise_buf (c : FaultCode) (s : State) : (s.raise c).buf = s.buf := rfl
@[simp] theorem State.raise_cur (c : FaultCode) (s : State) : (s.raise c).cur = s.cur := rfl
@[simp] theorem State.raise_txState (c : FaultCode) (s : State) : (s.raise c).txState = s.txState := rfl
@[simp] theorem State.raise_regEmpty (c : FaultCode) (s : State) : (s.raise c).regEmpty = s.regEmpty := rfl
@[simp] theorem State.raise_ie (c : FaultCode) (s : State) : (s.raise c).ie = s.ie := rfl
@[simp] theorem State.raise_wire (c : FaultCode) (s : State) : (s.raise c).wire = s.wire := rfl
@[simp] theorem State.raise_log (c : FaultCode) (s : State) : (s.raise c).log = s.log := rfl
@[simp] theorem State.raise_fault (c : FaultCode) (s : State) : (s.raise c).fault = some c := rfl
@[simp] theorem State.raise_refused (c : FaultCode) (s : State) : (s.raise c).refused = s.refused := rfl
@[simp] theorem State.raise_resp (c : FaultCode) (s : State) : (s.raise c).resp = s.resp := rfl
@[simp] theorem State.raise_result (c : FaultCode) (s : State) : (s.raise c).result = .fault c := rfl
@[simp] theorem State.raise_agent (c : FaultCode) (s : State) : (s.raise c).agent = s.agent := rfl
@[simp] theorem State.raise_port (c : FaultCode) (s : State) : (s.raise c).port = s.port := rfl
@[simp] theorem State.raise_free (c : FaultCode) (s : State) : (s.raise c).free = s.free := rfl

@[simp] theorem State.raiseOpen_cfg (c : FaultCode) (s : State) : (s.raiseOpen c).cfg = s.cfg := rfl
@[simp] theorem State.raiseOpen_mem (c : FaultCode) (s : State) : (s.raiseOpen c).mem = s.mem := rfl
@[simp] theorem State.raiseOpen_wi (c : FaultCode) (s : State) : (s.raiseOpen c).wi = s.wi := rfl
@[simp] theorem State.raiseOpen_ri (c : FaultCode) (s : State) : (s.raiseOpen c).ri = s.ri := rfl
@[simp] theorem State.raiseOpen_buf (c : FaultCode) (s : State) : (s.raiseOpen c).buf = s.buf := rfl
@[simp] theorem State.raiseOpen_cur (c : FaultCode) (s : State) : (s.raiseOpen c).cur = s.cur := rfl
@[simp] theorem State.raiseOpen_txState (c : FaultCode) (s : State) : (s.raiseOpen c).txState = s.txState := rfl
@[simp] theorem State.raiseOpen_regEmpty (c : FaultCode) (s : State) : (s.raiseOpen c).regEmpty = s.regEmpty := rfl
@[simp] theorem State.raiseOpen_ie (c : FaultCode) (s : State) : (s.raiseOpen c).ie = s.ie := rfl
@[simp] theorem State.raiseOpen_wire (c : FaultCode) (s : State) : (s.raiseOpen c).wire = s.wire := rfl
@[simp] theorem State.raiseOpen_log (c : FaultCode) (s : State) : (s.raiseOpen c).log = s.log := rfl
@[simp] theorem State.raiseOpen_fault (c : FaultCode) (s : State) : (s.raiseOpen c).fault = some c := rfl
@[simp] theorem State.raiseOpen_refused (c : FaultCode) (s : State) : (s.raiseOpen c).refused = s.refused := rfl
@[simp] theorem State.raiseOpen_resp (c : FaultCode) (s : State) : (s.raiseOpen c).resp = Config.freeResponse s.free := rfl
@[simp] theorem State.raiseOpen_result (c : FaultCode) (s : State) : (s.raiseOpen c).result = .fault c := rfl
@[simp] theorem State.raiseOpen_agent (c : FaultCode) (s : State) : (s.raiseOpen c).agent = s.agent := rfl
@[simp] theorem State.raiseOpen_port (c : FaultCode) (s : State) : (s.raiseOpen c).port = s.port := rfl
@[simp] theorem State.raiseOpen_free (c : FaultCode) (s : State) : (s.raiseOpen c).free = s.free + 1 := rfl

@[simp] theorem State.transmitByte_cfg (b : Byte) (s : State) : (s.transmitByte b).cfg = s.cfg := rfl
@[simp] theorem State.transmitByte_mem (b : Byte) (s : State) : (s.transmitByte b).mem = s.mem := rfl
@[simp] theorem State.transmitByte_wi (b : Byte) (s : State) : (s.transmitByte b).wi = s.wi := rfl
@[simp] theorem State.transmitByte_ri (b : Byte) (s : State) : (s.transmitByte b).ri = s.ri := rfl
@[simp] theorem State.transmitByte_buf (b : Byte) (s : State) : (s.transmitByte b).buf = s.buf := rfl
@[simp] theorem State.transmitByte_cur (b : Byte) (s : State) : (s.transmitByte b).cur = s.cur := rfl
@[simp] theorem State.transmitByte_txState (b : Byte) (s : State) : (s.transmitByte b).txState = s.txState := rfl
@[simp] theorem State.transmitByte_regEmpty (b : Byte) (s : State) : (s.transmitByte b).regEmpty = false := rfl
@[simp] theorem State.transmitByte_ie (b : Byte) (s : State) : (s.transmitByte b).ie = s.ie := rfl
@[simp] theorem State.transmitByte_wire (b : Byte) (s : State) : (s.transmitByte b).wire = s.wire ++ [b] := rfl
@[simp] theorem State.transmitByte_log (b : Byte) (s : State) : (s.transmitByte b).log = s.log ++ [.tx b] := rfl
@[simp] theorem State.transmitByte_fault (b : Byte) (s : State) : (s.transmitByte b).fault = s.fault := rfl
@[simp] theorem State.transmitByte_refused (b : Byte) (s : State) : (s.transmitByte b).refused = s.refused := rfl
@[simp] theorem State.transmitByte_resp (b : Byte) (s : State) : (s.transmitByte b).resp = s.resp := rfl
@[simp] theorem State.transmitByte_result (b : Byte) (s : State) : (s.transmitByte b).result = s.result := rfl
@[simp] theorem State.transmitByte_agent (b : Byte) (s : State) : (s.transmitByte b).agent = s.agent := rfl
@[simp] theorem State.transmitByte_port (b : Byte) (s : State) : (s.transmitByte b).port = s.port := rfl
@[simp] theorem State.transmitByte_free (b : Byte) (s : State) : (s.transmitByte b).free = s.free := rfl

@[simp] theorem State.enableEmptyInterrupt_cfg (s : State) : (s.enableEmptyInterrupt).cfg = s.cfg := rfl
@[simp] theorem State.enableEmptyInterrupt_mem (s : State) : (s.enableEmptyInterrupt).mem = s.mem := rfl
@[simp] theorem State.enableEmptyInterrupt_wi (s : State) : (s.enableEmptyInterrupt).wi = s.wi := rfl
@[simp] theorem State.enableEmptyInterrupt_ri (s : State) : (s.enableEmptyInterrupt).ri = s.ri := rfl
@[simp] theorem State.enableEmptyInterrupt_buf (s : State) : (s.enableEmptyInterrupt).buf = s.buf := rfl
@[simp] theorem State.enableEmptyInterrupt_cur (s : State) : (s.enableEmptyInterrupt).cur = s.cur := rfl
@[simp] theorem State.enableEmptyInterrupt_txState (s : State) : (s.enableEmptyInterrupt).txState = s.txState := rfl
@[simp] theorem State.enableEmptyInterrupt_regEmpty (s : State) : (s.enableEmptyInterrupt).regEmpty = s.regEmpty := rfl
@[simp] theorem State.enableEmptyInterrupt_ie (s : State) : (s.enableEmptyInterrupt).ie = true := rfl
@[simp] theorem State.enableEmptyInterrupt_wire (s : State) : (s.enableEmptyInterrupt).wire = s.wire := rfl
@[simp] theorem State.enableEmptyInterrupt_log (s : State) : (s.enableEmptyInterrupt).log = s.log ++ [.ieEn] := rfl
@[simp] theorem State.enableEmptyInterrupt_fault (s : State) : (s.enableEmptyInterrupt).fault = s.fault := rfl
@[simp] theorem State.enableEmptyInterrupt_refused (s : State) : (s.enableEmptyInterrupt).refused = s.refused := rfl
@[simp] theorem State.enableEmptyInterrupt_resp (s : State) : (s.enableEmptyInterrupt).resp = s.resp := rfl
@[simp] theorem State.enableEmptyInterrupt_result (s : State) : (s.enableEmptyInterrupt).result = s.result := rfl
@[simp] theorem State.enableEmptyInterrupt_agent (s : State) : (s.enableEmptyInterrupt).agent = s.agent := rfl
@[simp] theorem State.enableEmptyInterrupt_port (s : State) : (s.enableEmptyInterrupt).port = s.port := rfl
@[simp] theorem State.enableEmptyInterrupt_free (s : State) : (s.enableEmptyInterrupt).free = s.free := rfl

@[simp] theorem State.disableEmptyInterrupt_cfg (s : State) : (s.disableEmptyInterrupt).cfg = s.cfg := rfl
@[simp] theorem State.disableEmptyInterrupt_mem (s : State) : (s.disableEmptyInterrupt).mem = s.mem := rfl
@[simp] theorem State.disableEmptyInterrupt_wi (s : State) : (s.disableEmptyInterrupt).wi = s.wi := rfl
@[simp] theorem State.disableEmptyInterrupt_ri (s : State) : (s.disableEmptyInterrupt).ri = s.ri := rfl
@[simp] theorem State.disableEmptyInterrupt_buf (s : State) : (s.disableEmptyInterrupt).buf = s.buf := rfl
@[simp] theorem State.disableEmptyInterrupt_cur (s : State) : (s.disableEmptyInterrupt).cur = s.cur := rfl
@[simp] theorem State.disableEmptyInterrupt_txState (s : State) : (s.disableEmptyInterrupt).txState = s.txState := rfl
@[simp] theorem State.disableEmptyInterrupt_regEmpty (s : State) : (s.disableEmptyInterrupt).regEmpty = s.regEmpty := rfl
@[simp] theorem State.disableEmptyInterrupt_ie (s : State) : (s.disableEmptyInterrupt).ie = false := rfl
@[simp] theorem State.disableEmptyInterrupt_wire (s : State) : (s.disableEmptyInterrupt).wire = s.wire := rfl
@[simp] theorem State.disableEmptyInterrupt_log (s : State) : (s.disableEmptyInterrupt).log = s.log ++ [.ieDis] := rfl
@[simp] theorem State.disableEmptyInterrupt_fault (s : State) : (s.disableEmptyInterrupt).fault = s.fault := rfl
@[simp] theorem State.disableEmptyInterrupt_refused (s : State) : (s.disableEmptyInterrupt).refused = s.refused := rfl
@[simp] theorem State.disableEmptyInterrupt_resp (s : State) : (s.disableEmptyInterrupt).resp = s.resp := rfl
@[simp] theorem State.disableEmptyInterrupt_result (s : State) : (s.disableEmptyInterrupt).result = s.result := rfl
@[simp] theorem State.disableEmptyInterrupt_agent (s : State) : (s.disableEmptyInterrupt).agent = s.agent := rfl
@[simp] theorem State.disableEmptyInterrupt_port (s : State) : (s.disableEmptyInterrupt).port = s.port := rfl
@[simp] theorem State.disableEmptyInterrupt_free (s : State) : (s.disableEmptyInterrupt).free = s.free := rfl

@[simp] theorem State.setTxState_cfg (b : Bool) (s : State) : (s.setTxState b).cfg = s.cfg := rfl
@[simp] theorem State.setTxState_mem (b : Bool) (s : State) : (s.setTxState b).mem = s.mem := rfl
@[simp] theorem State.setTxState_wi (b : Bool) (s : State) : (s.setTxState b).wi = s.wi := rfl
@[simp] theorem State.setTxState_ri (b : Bool) (s : State) : (s.setTxState b).ri = s.ri := rfl
@[simp] theorem State.setTxState_buf (b : Bool) (s : State) : (s.setTxState b).buf = s.buf := rfl
@[simp] theorem State.setTxState_cur (b : Bool) (s : State) : (s.setTxState b).cur = s.cur := rfl
@[simp] theorem State.setTxState_txState (b : Bool) (s : State) : (s.setTxState b).txState = b := rfl
@[simp] theorem State.setTxState_regEmpty (b : Bool) (s : State) : (s.setTxState b).regEmpty = s.regEmpty := rfl
@[simp] theorem State.setTxState_ie (b : Bool) (s : State) : (s.setTxState b).ie = s.ie := rfl
@[simp] theorem State.setTxState_wire (b : Bool) (s : State) : (s.setTxState b).wire = s.wire := rfl
@[simp] theorem State.setTxState_log (b : Bool) (s : State) : (s.setTxState b).log = s.log := rfl
@[simp] theorem State.setTxState_fault (b : Bool) (s : State) : (s.setTxState b).fault = s.fault := rfl
@[simp] theorem State.setTxState_refused (b : Bool) (s : State) : (s.setTxState b).refused = s.refused := rfl
@[simp] theorem State.setTxState_resp (b : Bool) (s : State) : (s.setTxState b).resp = s.resp := rfl
@[simp] theorem State.setTxState_result (b : Bool) (s : State) : (s.setTxState b).result = s.result := rfl
@[simp] theorem State.setTxState_agent (b : Bool) (s : State) : (s.setTxState b).agent = s.agent := rfl
@[simp] theorem State.setTxState_port (b : Bool) (s : State) : (s.setTxState b).port = s.port := rfl
@[simp] theorem State.setTxState_free (b : Bool) (s : State) : (s.setTxState b).free = s.free := rfl

@[simp] theorem State.enqueue_cfg (w : Word) (s : State) : (s.enqueue w).cfg = s.cfg := rfl
@[simp] theorem State.enqueue_mem (w : Word) (s : State) : (s.enqueue w).mem = Memory.write s.mem (slotOf s.cfg s.wi) w :=
  rfl
@[simp] theorem State.enqueue_wi (w : Word) (s : State) : (s.enqueue w).wi = s.wi + 1 := rfl
@[simp] theorem State.enqueue_ri (w : Word) (s : State) : (s.enqueue w).ri = s.ri := rfl
@[simp] theorem State.enqueue_buf (w : Word) (s : State) : (s.enqueue w).buf = s.buf := rfl
@[simp] theorem State.enqueue_cur (w : Word) (s : State) : (s.enqueue w).cur = s.cur := rfl
@[simp] theorem State.enqueue_txState (w : Word) (s : State) : (s.enqueue w).txState = s.txState := rfl
@[simp] theorem State.enqueue_regEmpty (w : Word) (s : State) : (s.enqueue w).regEmpty = s.regEmpty := rfl
@[simp] theorem State.enqueue_ie (w : Word) (s : State) : (s.enqueue w).ie = s.ie := rfl
@[simp] theorem State.enqueue_wire (w : Word) (s : State) : (s.enqueue w).wire = s.wire := rfl
@[simp] theorem State.enqueue_log (w : Word) (s : State) : (s.enqueue w).log = s.log := rfl
@[simp] theorem State.enqueue_fault (w : Word) (s : State) : (s.enqueue w).fault = s.fault := rfl
@[simp] theorem State.enqueue_refused (w : Word) (s : State) : (s.enqueue w).refused = s.refused := rfl
@[simp] theorem State.enqueue_resp (w : Word) (s : State) : (s.enqueue w).resp = s.resp := rfl
@[simp] theorem State.enqueue_result (w : Word) (s : State) : (s.enqueue w).result = s.result := rfl
@[simp] theorem State.enqueue_agent (w : Word) (s : State) : (s.enqueue w).agent = s.agent := rfl
@[simp] theorem State.enqueue_port (w : Word) (s : State) : (s.enqueue w).port = s.port := rfl
@[simp] theorem State.enqueue_free (w : Word) (s : State) : (s.enqueue w).free = s.free := rfl

@[simp] theorem State.dequeue_cfg (s : State) : s.dequeue.cfg = s.cfg := rfl
@[simp] theorem State.dequeue_mem (s : State) : s.dequeue.mem = s.mem := rfl
@[simp] theorem State.dequeue_wi (s : State) : s.dequeue.wi = s.wi := rfl
@[simp] theorem State.dequeue_ri (s : State) : s.dequeue.ri = s.ri + 1 := rfl
@[simp] theorem State.dequeue_buf (s : State) : s.dequeue.buf = s.buf := rfl
@[simp] theorem State.dequeue_cur (s : State) : s.dequeue.cur = s.cur := rfl
@[simp] theorem State.dequeue_txState (s : State) : s.dequeue.txState = s.txState := rfl
@[simp] theorem State.dequeue_regEmpty (s : State) : s.dequeue.regEmpty = s.regEmpty := rfl
@[simp] theorem State.dequeue_ie (s : State) : s.dequeue.ie = s.ie := rfl
@[simp] theorem State.dequeue_wire (s : State) : s.dequeue.wire = s.wire := rfl
@[simp] theorem State.dequeue_log (s : State) : s.dequeue.log = s.log := rfl
@[simp] theorem State.dequeue_fault (s : State) : s.dequeue.fault = s.fault := rfl
@[simp] theorem State.dequeue_refused (s : State) : s.dequeue.refused = s.refused := rfl
@[simp] theorem State.dequeue_resp (s : State) : s.dequeue.resp = s.resp := rfl
@[simp] theorem State.dequeue_result (s : State) : s.dequeue.result = s.result := rfl
@[simp] theorem State.dequeue_agent (s : State) : s.dequeue.agent = s.agent := rfl
@[simp] theorem State.dequeue_port (s : State) : s.dequeue.port = s.port := rfl
@[simp] theorem State.dequeue_free (s : State) : s.dequeue.free = s.free := rfl

@[simp] theorem State.loadFrame_cfg (w : Word) (s : State) : (s.loadFrame w).cfg = s.cfg := rfl
@[simp] theorem State.loadFrame_mem (w : Word) (s : State) : (s.loadFrame w).mem = s.mem := rfl
@[simp] theorem State.loadFrame_wi (w : Word) (s : State) : (s.loadFrame w).wi = s.wi := rfl
@[simp] theorem State.loadFrame_ri (w : Word) (s : State) : (s.loadFrame w).ri = s.ri := rfl
@[simp] theorem State.loadFrame_buf (w : Word) (s : State) : (s.loadFrame w).buf = (wireFrame s.cfg w).map some := rfl
@[simp] theorem State.loadFrame_cur (w : Word) (s : State) : (s.loadFrame w).cur = 0 := rfl
@[simp] theorem State.loadFrame_txState (w : Word) (s : State) : (s.loadFrame w).txState = s.txState := rfl
@[simp] theorem State.loadFrame_regEmpty (w : Word) (s : State) : (s.loadFrame w).regEmpty = s.regEmpty := rfl
@[simp] theorem State.loadFrame_ie (w : Word) (s : State) : (s.loadFrame w).ie = s.ie := rfl
@[simp] theorem State.loadFrame_wire (w : Word) (s : State) : (s.loadFrame w).wire = s.wire := rfl
@[simp] theorem State.loadFrame_log (w : Word) (s : State) : (s.loadFrame w).log = s.log := rfl
@[simp] theorem State.loadFrame_fault (w : Word) (s : State) : (s.loadFrame w).fault = s.fault := rfl
@[simp] theorem State.loadFrame_refused (w : Word) (s : State) : (s.loadFrame w).refused = s.refused := rfl
@[simp] theorem State.loadFrame_resp (w : Word) (s : State) : (s.loadFrame w).resp = s.resp := rfl
@[simp] theorem State.loadFrame_result (w : Word) (s : State) : (s.loadFrame w).result = s.result := rfl
@[simp] theorem State.loadFrame_agent (w : Word) (s : State) : (s.loadFrame w).agent = s.agent := rfl
@[simp] theorem State.loadFrame_port (w : Word) (s : State) : (s.loadFrame w).port = s.port := rfl
@[simp] theorem State.loadFrame_free (w : Word) (s : State) : (s.loadFrame w).free = s.free := rfl

@[simp] theorem State.initContext_cfg (s : State) : (s.initContext).cfg = s.cfg := rfl
@[simp] theorem State.initContext_mem (s : State) : (s.initContext).mem = [] := rfl
@[simp] theorem State.initContext_wi (s : State) : (s.initContext).wi = 0 := rfl
@[simp] theorem State.initContext_ri (s : State) : (s.initContext).ri = 0 := rfl
@[simp] theorem State.initContext_buf (s : State) : (s.initContext).buf =
    ⟨some (startByteOf s.cfg), some (localAddrOf s.cfg), some (serverAddrOf s.cfg), none, none, none, none, none⟩ :=
  rfl
@[simp] theorem State.initContext_cur (s : State) : (s.initContext).cur = 8 := rfl
@[simp] theorem State.initContext_txState (s : State) : (s.initContext).txState = false := rfl
@[simp] theorem State.initContext_regEmpty (s : State) : (s.initContext).regEmpty = s.regEmpty := rfl
@[simp] theorem State.initContext_ie (s : State) : (s.initContext).ie = s.ie := rfl
@[simp] theorem State.initContext_wire (s : State) : (s.initContext).wire = s.wire := rfl
@[simp] theorem State.initContext_log (s : State) : (s.initContext).log = s.log := rfl
@[simp] theorem State.initContext_fault (s : State) : (s.initContext).fault = s.fault := rfl
@[simp] theorem State.initContext_refused (s : State) : (s.initContext).refused = s.refused := rfl
@[simp] theorem State.initContext_resp (s : State) : (s.initContext).resp = s.resp := rfl
@[simp] theorem State.initContext_result (s : State) : (s.initContext).result = s.result := rfl
@[simp] theorem State.initContext_agent (s : State) : (s.initContext).agent = s.agent := rfl
@[simp] theorem State.initContext_port (s : State) : (s.initContext).port = s.port := rfl
@[simp] theorem State.initContext_free (s : State) : (s.initContext).free = s.free := rfl

@[simp] theorem State.take_cfg (t : Transaction) (rest : List Transaction) (s : State) : (s.take t rest).cfg = s.cfg := rfl
@[simp] theorem State.take_mem (t : Transaction) (rest : List Transaction) (s : State) : (s.take t rest).mem = s.mem := rfl
@[simp] theorem State.take_wi (t : Transaction) (rest : List Transaction) (s : State) : (s.take t rest).wi = s.wi := rfl
@[simp] theorem State.take_ri (t : Transaction) (rest : List Transaction) (s : State) : (s.take t rest).ri = s.ri := rfl
@[simp] theorem State.take_buf (t : Transaction) (rest : List Transaction) (s : State) : (s.take t rest).buf = s.buf := rfl
@[simp] theorem State.take_cur (t : Transaction) (rest : List Transaction) (s : State) : (s.take t rest).cur = s.cur := rfl
@[simp] theorem State.take_txState (t : Transaction) (rest : List Transaction) (s : State) : (s.take t rest).txState =
    s.txState :=
  rfl
@[simp] theorem State.take_regEmpty (t : Transaction) (rest : List Transaction) (s : State) : (s.take t rest).regEmpty =
    s.regEmpty :=
  rfl
@[simp] theorem State.take_ie (t : Transaction) (rest : List Transaction) (s : State) : (s.take t rest).ie = s.ie := rfl
@[simp] theorem State.take_wire (t : Transaction) (rest : List Transaction) (s : State) : (s.take t rest).wire = s.wire :=
  rfl
@[simp] theorem State.take_log (t : Transaction) (rest : List Transaction) (s : State) : (s.take t rest).log = s.log := rfl
@[simp] theorem State.take_fault (t : Transaction) (rest : List Transaction) (s : State) : (s.take t rest).fault = s.fault :=
  rfl
@[simp] theorem State.take_refused (t : Transaction) (rest : List Transaction) (s : State) : (s.take t rest).refused =
    s.refused :=
  rfl
@[simp] theorem State.take_resp (t : Transaction) (rest : List Transaction) (s : State) : (s.take t rest).resp = s.resp :=
  rfl
@[simp] theorem State.take_result (t : Transaction) (rest : List Transaction) (s : State) : (s.take t rest).result =
    s.result :=
  rfl
@[simp] theorem State.take_agent (t : Transaction) (rest : List Transaction) (s : State) : (s.take t rest).agent =
    t.issuer :=
  rfl
@[simp] theorem State.take_port (t : Transaction) (rest : List Transaction) (s : State) : (s.take t rest).port = rest := rfl
@[simp] theorem State.take_free (t : Transaction) (rest : List Transaction) (s : State) : (s.take t rest).free = s.free :=
  rfl

@[simp] theorem State.present_cfg (t : Transaction) (s : State) : (s.present t).cfg = s.cfg := rfl
@[simp] theorem State.present_mem (t : Transaction) (s : State) : (s.present t).mem = s.mem := rfl
@[simp] theorem State.present_wi (t : Transaction) (s : State) : (s.present t).wi = s.wi := rfl
@[simp] theorem State.present_ri (t : Transaction) (s : State) : (s.present t).ri = s.ri := rfl
@[simp] theorem State.present_buf (t : Transaction) (s : State) : (s.present t).buf = s.buf := rfl
@[simp] theorem State.present_cur (t : Transaction) (s : State) : (s.present t).cur = s.cur := rfl
@[simp] theorem State.present_txState (t : Transaction) (s : State) : (s.present t).txState = s.txState := rfl
@[simp] theorem State.present_regEmpty (t : Transaction) (s : State) : (s.present t).regEmpty = s.regEmpty := rfl
@[simp] theorem State.present_ie (t : Transaction) (s : State) : (s.present t).ie = s.ie := rfl
@[simp] theorem State.present_wire (t : Transaction) (s : State) : (s.present t).wire = s.wire := rfl
@[simp] theorem State.present_log (t : Transaction) (s : State) : (s.present t).log = s.log := rfl
@[simp] theorem State.present_fault (t : Transaction) (s : State) : (s.present t).fault = s.fault := rfl
@[simp] theorem State.present_refused (t : Transaction) (s : State) : (s.present t).refused = s.refused := rfl
@[simp] theorem State.present_resp (t : Transaction) (s : State) : (s.present t).resp = s.resp := rfl
@[simp] theorem State.present_result (t : Transaction) (s : State) : (s.present t).result = s.result := rfl
@[simp] theorem State.present_agent (t : Transaction) (s : State) : (s.present t).agent = s.agent := rfl
@[simp] theorem State.present_port (t : Transaction) (s : State) : (s.present t).port = t :: s.port := rfl
@[simp] theorem State.present_free (t : Transaction) (s : State) : (s.present t).free = s.free := rfl

end Sys2Proof.Machine
end

