-- ==== Sys2Proof/Laws/Ops.lean ====
section
/-! SUPPORT. For each shared operation, once, everything it can do. -/

namespace Sys2Proof.Machine

theorem guardIssuer_of_mem {i : Instr} {s : State} (h : s.agent ∈ issuers i) (op : State → State) :
    guardIssuer i op s = .next (op s) := by
  simp [guardIssuer, h]

theorem guardIssuer_of_not_mem {i : Instr} {s : State} (h : s.agent ∉ issuers i) (op : State → State) :
    guardIssuer i op s = .next (s.refuse .agent) := by
  simp [guardIssuer, h]

/-- Any next state of an admitted operation is its result or the refusal of the agent. -/
theorem guardIssuer_cases {i : Instr} {op : State → State} {s t : State} (h : guardIssuer i op s = .next t) :
    (s.agent ∈ issuers i ∧ t = op s) ∨ (s.agent ∉ issuers i ∧ t = s.refuse .agent) := by
  by_cases hm : s.agent ∈ issuers i
  · rw [guardIssuer_of_mem hm] at h
    exact .inl ⟨hm, by simpa using h.symm⟩
  · rw [guardIssuer_of_not_mem hm] at h
    exact .inr ⟨hm, by simpa using h.symm⟩

theorem whenEnabled_on {s : State} (h : s.cfg.traceEnabled = true) (op : State → State) : whenEnabled op s = op s := by
  simp [whenEnabled, h]

theorem whenEnabled_off {s : State} (h : s.cfg.traceEnabled = false) (op : State → State) :
    whenEnabled op s = s.respond 0 := by
  simp [whenEnabled, h]

/-- POP: the word of the head slot and the state with the read counter one on, or one of its three faults. -/
theorem popWord_cases (s : State) :
    (s.depth = 0#32 ∧ s.popWord = .error .popEmpty) ∨
    (s.depth ≠ 0#32 ∧ s.cfg.capacity < s.depth.toNat ∧ s.popWord = .error .invariant) ∨
    (s.depth ≠ 0#32 ∧ s.depth.toNat ≤ s.cfg.capacity ∧ Memory.read s.mem (slotOf s.cfg s.ri) = none ∧
      s.popWord = .error .readUnwritten) ∨
    (∃ w, s.depth ≠ 0#32 ∧ s.depth.toNat ≤ s.cfg.capacity ∧ Memory.read s.mem (slotOf s.cfg s.ri) = some w ∧
      s.popWord = .ok (w, s.dequeue)) := by
  unfold State.popWord
  by_cases h0 : s.depth = 0#32
  · exact .inl ⟨h0, by simp [h0]⟩
  · by_cases hc : s.cfg.capacity < s.depth.toNat
    · exact .inr (.inl ⟨h0, hc, by simp [h0, hc]⟩)
    · have hc' : s.depth.toNat ≤ s.cfg.capacity := by omega
      cases hr : Memory.read s.mem (slotOf s.cfg s.ri) with
      | none => exact .inr (.inr (.inl ⟨h0, hc', rfl, by simp [h0, hc]⟩))
      | some w => exact .inr (.inr (.inr ⟨w, h0, hc', rfl, by simp [h0, hc]⟩))

/-- REFILL: case 1 (R141), case 2 (R142), case 3 (R143), or a fault of POP. -/
theorem refillFrame_cases (s : State) :
    (s.cur.val < 8 ∧ s.refillFrame = .ok (8 - s.cur.val, s)) ∨
    (s.cur = 8 ∧ s.depth = 0#32 ∧ s.refillFrame = .ok (0, s)) ∨
    (∃ c, s.cur = 8 ∧ s.depth ≠ 0#32 ∧ s.popWord = .error c ∧ s.refillFrame = .error c) ∨
    (∃ w, s.cur = 8 ∧ s.depth ≠ 0#32 ∧ s.depth.toNat ≤ s.cfg.capacity ∧
      Memory.read s.mem (slotOf s.cfg s.ri) = some w ∧
      s.refillFrame = .ok (8, s.dequeue.loadFrame w)) := by
  unfold State.refillFrame
  by_cases hcur : s.cur.val < 8
  · exact .inl ⟨hcur, by simp [remaining, show (8 - s.cur.val ≠ 0) by omega]⟩
  · have h8 : s.cur = 8 := Fin.ext (by have := s.cur.isLt; simp; omega)
    have hr : remaining s.cur = 0 := by simp [remaining, h8]
    by_cases h0 : s.depth = 0#32
    · exact .inr (.inl ⟨h8, h0, by simp [hr, h0]⟩)
    · rcases popWord_cases s with ⟨h, _⟩ | ⟨_, _, hp⟩ | ⟨_, _, _, hp⟩ | ⟨w, _, hle, hrd, hp⟩
      · exact absurd h h0
      · exact .inr (.inr (.inl ⟨_, h8, h0, hp, by simp [hr, h0, hp]⟩))
      · exact .inr (.inr (.inl ⟨_, h8, h0, hp, by simp [hr, h0, hp]⟩))
      · exact .inr (.inr (.inr ⟨w, h8, h0, hle, hrd, by simp [hr, h0, hp]⟩))

theorem advance_val {c : Fin 9} (h : c.val < 8) : (advance c).val = c.val + 1 := by
  simp only [advance]
  omega

/-- The byte under the cursor, where the cursor is inside the frame. -/
theorem bufByte_eq_get (buf : Octets (Option Byte)) {c : Fin 9} (h : c.val < 8) :
    bufByte buf c = buf.get ⟨c.val, h⟩ := by
  have hl : c.val < buf.toList.length := h
  simp [bufByte, Octets.get, List.getElem?_eq_getElem hl]

/-- Taking a byte of the frame: the buffer's byte where it is written, a free value where it is not. -/
theorem takeByte_cases (s : State) :
    (∃ b, bufByte s.buf s.cur = some b ∧ s.takeByte = (b, { s with cur := advance s.cur })) ∨
    (bufByte s.buf s.cur = none ∧
      s.takeByte = (Config.freeByte s.free, { s with cur := advance s.cur, free := s.free + 1 })) := by
  unfold State.takeByte
  cases h : bufByte s.buf s.cur with
  | none => exact .inr ⟨rfl, rfl⟩
  | some b => exact .inl ⟨b, rfl, rfl⟩

/-- The transmit step of an enabled block: busy (R173), faulted, Idle (R175), or Sending a byte of the current frame or the
first byte of a new one (R174). -/
theorem transmitStep_cases (s : State) :
    (s.regEmpty = false ∧ s.transmitStep = s.respond 0) ∨
    (∃ c, s.regEmpty = true ∧ s.cur = 8 ∧ s.depth ≠ 0#32 ∧ s.popWord = .error c ∧
      s.transmitStep = (s.respond 0).raise c) ∨
    (s.regEmpty = true ∧ s.cur = 8 ∧ s.depth = 0#32 ∧ s.transmitStep = s.goIdle) ∨
    (s.regEmpty = true ∧ s.cur.val < 8 ∧ s.transmitStep = s.sendByte) ∨
    (∃ w, s.regEmpty = true ∧ s.cur = 8 ∧ s.depth ≠ 0#32 ∧ s.depth.toNat ≤ s.cfg.capacity ∧
      Memory.read s.mem (slotOf s.cfg s.ri) = some w ∧
      s.transmitStep = (s.dequeue.loadFrame w).sendByte) := by
  unfold State.transmitStep
  by_cases hb : s.regEmpty = true
  · rw [if_pos hb]
    rcases refillFrame_cases s with ⟨hc, h⟩ | ⟨hc, hd, h⟩ | ⟨c, hc, hd, hp, h⟩ | ⟨w, hc, hd, hle, hr, h⟩
    · exact .inr (.inr (.inr (.inl ⟨hb, hc, by simp [h, hc]⟩)))
    · exact .inr (.inr (.inl ⟨hb, hc, hd, by simp [h]⟩))
    · exact .inr (.inl ⟨c, hb, hc, hd, hp, by simp [h]⟩)
    · exact .inr (.inr (.inr (.inr ⟨w, hb, hc, hd, hle, hr, by simp [h]⟩)))
  · exact .inl ⟨by simpa using hb, by simp [hb]⟩

/-- The Sending path on a frame byte that is written (R174, R177). -/
theorem sendByte_eq {s : State} {b : Byte} (h : bufByte s.buf s.cur = some b) :
    s.sendByte =
      { s with
        cur := advance s.cur
        wire := s.wire ++ [b]
        log := s.log ++ [.tx b, .ieEn]
        regEmpty := false
        txState := true
        ie := true
        resp := 0
        result := .ok } := by
  simp [State.sendByte, State.takeByte, h, State.transmitByte, State.setTxState, State.enableEmptyInterrupt,
    State.respond]

/-- The Idle path (R175). -/
theorem goIdle_eq (s : State) :
    s.goIdle = { s with log := s.log ++ [.ieDis], ie := false, txState := false, resp := 0, result := .ok } := rfl

/-- Building a frame and sending its first byte (R143, R174). -/
theorem loadFrame_sendByte_eq (w : Word) (s : State) :
    (s.loadFrame w).sendByte =
      { s with
        buf := (wireFrame s.cfg w).map some
        cur := 1
        wire := s.wire ++ [(wireFrame s.cfg w).b0]
        log := s.log ++ [.tx (wireFrame s.cfg w).b0, .ieEn]
        regEmpty := false
        txState := true
        ie := true
        resp := 0
        result := .ok } := by
  rw [sendByte_eq (b := (wireFrame s.cfg w).b0) rfl]
  rfl

end Sys2Proof.Machine
end

