-- ==== Sys2Proof/Laws/PerInstr.lean ====
section
/-! SUPPORT. A fact about every instruction as syntax, one lemma for each constructor: the two fields of its encoding. -/

namespace Sys2Proof.Laws

/-- The encoding carries the operation's opcode in bits [39:32] and its operand in bits [31:0], and the operand is 0 unless the
format is W (R80 to R82). -/
def OpcodeField.Statement (i : Instr) : Prop :=
  opcodeField (encode i) = i.opcode ∧ operandField (encode i) = i.operand ∧ (i.format ≠ .word → i.operand = 0)

/-- The two fields of an encoding, whatever the operation. -/
theorem encode_fields (i : Instr) : opcodeField (encode i) = i.opcode ∧ operandField (encode i) = i.operand :=
  ⟨opcodeField_append _ _, operandField_append _ _⟩

theorem OpcodeField.push (w : Word) : OpcodeField.Statement (.push w) :=
  ⟨(encode_fields _).1, (encode_fields _).2, fun h => absurd rfl h⟩

theorem OpcodeField.depth : OpcodeField.Statement .depth := ⟨(encode_fields _).1, (encode_fields _).2, fun _ => rfl⟩

theorem OpcodeField.status : OpcodeField.Statement .status := ⟨(encode_fields _).1, (encode_fields _).2, fun _ => rfl⟩

theorem OpcodeField.txstep : OpcodeField.Statement .txstep := ⟨(encode_fields _).1, (encode_fields _).2, fun _ => rfl⟩

theorem OpcodeField.txdone : OpcodeField.Statement .txdone := ⟨(encode_fields _).1, (encode_fields _).2, fun _ => rfl⟩

theorem OpcodeField.ieon : OpcodeField.Statement .ieon := ⟨(encode_fields _).1, (encode_fields _).2, fun _ => rfl⟩

theorem OpcodeField.reset : OpcodeField.Statement .reset := ⟨(encode_fields _).1, (encode_fields _).2, fun _ => rfl⟩

theorem OpcodeField.refill : OpcodeField.Statement .refill := ⟨(encode_fields _).1, (encode_fields _).2, fun _ => rfl⟩

theorem OpcodeField.pop : OpcodeField.Statement .pop := ⟨(encode_fields _).1, (encode_fields _).2, fun _ => rfl⟩

end Sys2Proof.Laws
end

