-- ==== Sys2Proof/Laws/Queue.lean ====
section
/-! SUPPORT. The arithmetic of the queue: what a valid capacity is, that the slot sequence continues across the wrap of a
counter (R7, R21), and that the waiting words of a queue within capacity stand in different slots. -/

namespace Sys2Proof.Machine

theorem wellFormed_capacity {c : Config} (h : c.wellFormed = true) : ∃ k ≤ 31, c.capacity = 2 ^ k := by
  simp only [Config.wellFormed, Bool.and_eq_true] at h
  obtain ⟨k, hk, he⟩ := List.any_eq_true.mp h.1.1.1.1
  exact ⟨k, by have := List.mem_range.mp hk; omega, by simpa using he⟩

theorem capacity_pos {c : Config} (h : c.wellFormed = true) : 0 < c.capacity := by
  obtain ⟨k, -, hk⟩ := wellFormed_capacity h
  rw [hk]
  exact Nat.two_pow_pos k

theorem capacity_dvd {c : Config} (h : c.wellFormed = true) : c.capacity ∣ 2 ^ 32 := by
  obtain ⟨k, hk, he⟩ := wellFormed_capacity h
  rw [he]
  exact pow_dvd_pow 2 (by omega)

theorem capacity_le {c : Config} (h : c.wellFormed = true) : c.capacity ≤ 2 ^ 31 := by
  obtain ⟨k, hk, he⟩ := wellFormed_capacity h
  rw [he]
  exact Nat.pow_le_pow_right (by omega) hk

theorem slotOf_lt {c : Config} (h : c.wellFormed = true) (x : Word) : slotOf c x < c.capacity :=
  Nat.mod_lt _ (capacity_pos h)

/-- The slot sequence continues across the wrap, because the capacity divides 2^32. -/
theorem slotOf_add {c : Config} (h : c.wellFormed = true) (x : Word) (k : Nat) :
    slotOf c (x + BitVec.ofNat 32 k) = (x.toNat + k) % c.capacity := by
  have hd := capacity_dvd h
  simp only [slotOf, BitVec.toNat_add, BitVec.toNat_ofNat]
  rw [Nat.mod_mod_of_dvd _ hd, Nat.add_mod, Nat.mod_mod_of_dvd _ hd, ← Nat.add_mod]

theorem waitingSlot_eq {s : State} (h : s.cfg.wellFormed = true) (k : Nat) :
    s.waitingSlot k = (s.ri.toNat + k) % s.cfg.capacity := slotOf_add h s.ri k

/-- Two places of the queue that share a slot are the same place. -/
theorem waitingSlot_inj {s : State} (h : s.cfg.wellFormed = true) {j k : Nat} (hj : j < s.cfg.capacity)
    (hk : k < s.cfg.capacity) (he : s.waitingSlot j = s.waitingSlot k) : j = k := by
  rw [waitingSlot_eq h, waitingSlot_eq h] at he
  have := Nat.ModEq.add_left_cancel' s.ri.toNat he
  rwa [Nat.ModEq, Nat.mod_eq_of_lt hj, Nat.mod_eq_of_lt hk] at this

/-- The slot the next word goes to is the waiting slot just past the last waiting word. -/
theorem slotOf_wi (s : State) : slotOf s.cfg s.wi = s.waitingSlot s.depth.toNat := by
  simp only [State.waitingSlot, State.depth, BitVec.ofNat_toNat, BitVec.setWidth_eq]
  congr 1
  bv_omega

/-- The slot the next word comes from is the first waiting slot. -/
theorem slotOf_ri (s : State) : slotOf s.cfg s.ri = s.waitingSlot 0 := by
  simp [State.waitingSlot]

end Sys2Proof.Machine
end

