-- ==== Sys2Proof/Laws/Step.lean ====
section
/-! SUPPORT. Everything one step can do, said once: what the port refuses, and what it serves. -/

namespace Sys2Proof.Machine

/-- The effect of an operation on the state in which its permitted agent issues it. -/
def effect : Instr → State → State
  | .push w => whenEnabled (State.pushWord w)
  | .depth => whenEnabled State.reportDepth
  | .status => whenEnabled State.reportStatus
  | .txstep => whenEnabled State.transmitStep
  | .txdone => State.registerDone
  | .ieon => State.hostEnable
  | .reset => fun s => s.initContext.respond 0
  | .refill => State.refillAndRespond
  | .pop => State.popAndRespond

/-- Every operation is its effect behind the check of the agent. -/
theorem exec_eq_guardIssuer (i : Instr) (s : State) : exec i s = guardIssuer i (effect i) s := by
  cases i <;> rfl

theorem exec_of_issuer {i : Instr} {s : State} (h : s.agent ∈ issuers i) : exec i s = .next (effect i s) := by
  rw [exec_eq_guardIssuer, guardIssuer_of_mem h]

theorem exec_of_other {i : Instr} {s : State} (h : s.agent ∉ issuers i) : exec i s = .next (s.refuse .agent) := by
  rw [exec_eq_guardIssuer, guardIssuer_of_not_mem h]

/-- No operation changes the configuration, the issuing agent or the pending transactions. -/
theorem effect_fixed (i : Instr) (s : State) :
    (effect i s).cfg = s.cfg ∧ (effect i s).agent = s.agent ∧ (effect i s).port = s.port := by
  have on : ∀ op : State → State,
      ((op s).cfg = s.cfg ∧ (op s).agent = s.agent ∧ (op s).port = s.port) →
        (whenEnabled op s).cfg = s.cfg ∧ (whenEnabled op s).agent = s.agent ∧ (whenEnabled op s).port = s.port := by
    intro op h
    unfold whenEnabled
    split
    · exact h
    · simp
  cases i with
  | push w => exact on _ (by unfold State.pushWord; split; · simp
                             split <;> simp)
  | depth => exact on _ (by unfold State.reportDepth; split <;> simp)
  | status => exact on _ (by simp [State.reportStatus])
  | txdone => simp [effect, State.registerDone]
  | ieon => simp [effect, State.hostEnable]
  | reset => simp [effect]
  | pop =>
    simp only [effect, State.popAndRespond]
    rcases popWord_cases s with ⟨_, h⟩ | ⟨_, _, h⟩ | ⟨_, _, _, h⟩ | ⟨w, _, _, _, h⟩ <;> simp [h]
  | refill =>
    simp only [effect, State.refillAndRespond]
    rcases refillFrame_cases s with ⟨_, h⟩ | ⟨_, _, h⟩ | ⟨c, _, _, _, h⟩ | ⟨w, _, _, _, _, h⟩ <;> simp [h]
  | txstep =>
    refine on _ ?_
    rcases transmitStep_cases s with ⟨_, h⟩ | ⟨c, _, _, _, _, h⟩ | ⟨_, _, _, h⟩ | ⟨_, _, h⟩ | ⟨w, _, _, _, _, _, h⟩ <;> rw [h]
    · simp
    · simp
    · simp [goIdle_eq]
    · rcases takeByte_cases s with ⟨b, _, ht⟩ | ⟨_, ht⟩ <;> simp [State.sendByte, ht]
    · simp [loadFrame_sendByte_eq]

/-- The port accepts a transaction exactly when the configuration is valid and it decodes to an operation that is not
internal. -/
theorem accept_eq_ok {c : Config} {t : Transaction} {i : Instr} (h : accept c t = .ok i) :
    c.wellFormed = true ∧ decode t.bits = .ok i ∧ i.format ≠ .internal := by
  unfold accept at h
  split at h
  · next hc =>
    cases hd : decode t.bits with
    | error r => simp [hd] at h
    | ok j =>
      simp only [hd] at h
      split at h
      · simp at h
      · next hf =>
        obtain rfl : j = i := by simpa using h
        exact ⟨hc, rfl, hf⟩
  · simp at h

/-- A step either refuses the first pending transaction, for a reason, or runs the operation it serves. -/
theorem step_cases {s t : State} (h : step s = .next t) :
    ∃ x rest, s.port = x :: rest ∧
      ((∃ r, s.served = none ∧ t = (s.take x rest).refuse r) ∨
        (∃ i, s.served = some i ∧ i.format ≠ .internal ∧ s.cfg.wellFormed = true ∧ t = effect i (s.take x rest))) := by
  unfold step at h
  cases hp : s.port with
  | nil => simp [hp] at h
  | cons x rest =>
    refine ⟨x, rest, rfl, ?_⟩
    simp only [hp] at h
    cases ha : accept s.cfg x with
    | error r =>
      simp only [ha] at h
      exact .inl ⟨r, by simp [State.served, hp, ha], by simpa using h.symm⟩
    | ok i =>
      simp only [ha] at h
      by_cases hm : x.issuer ∈ issuers i
      · rw [exec_of_issuer (by simpa using hm)] at h
        obtain ⟨hc, -, hf⟩ := accept_eq_ok ha
        exact .inr ⟨i, by simp [State.served, hp, ha, hm], hf, hc, by simpa using h.symm⟩
      · rw [exec_of_other (by simpa using hm)] at h
        exact .inl ⟨.agent, by simp [State.served, hp, ha, hm], by simpa using h.symm⟩

/-- A run of one step more that ends in a next state is a step and a run from where it leads. -/
theorem run_succ_eq_next {n : Nat} {s t : State} (h : Sys2Proof.core.run (n + 1) s = .next t) :
    ∃ u, step s = .next u ∧ Sys2Proof.core.run n u = .next t := by
  simp only [Host.Core.run] at h
  rw [show Sys2Proof.core.step s = step s from rfl] at h
  cases hs : step s with
  | next u => exact ⟨u, rfl, by simpa [hs] using h⟩
  | fault r => simp [hs] at h
  | refused r => simp [hs] at h

end Sys2Proof.Machine
end

