-- ==== Sys2Proof/Tests/Slice0.lean ====
section
/-! SUPPORT. Tests of the model against the vectors of spec/95_test_vectors.md and the examples in the rules, the smoke tests of
the well-formedness checks, and for every statement with hypotheses a witness that meets them. -/

namespace Sys2Proof.Tests

open Sys2Proof.Machine

/-! ### Well-formedness: every check refuses an ill-formed term -/

theorem test_capacity_checked :
    Config.wellFormed { Config.tc1 with capacity := 3 } = false ∧
      Config.wellFormed { Config.tc1 with capacity := 0 } = false ∧
      Config.wellFormed { Config.tc1 with capacity := 2 ^ 32 } = false := by decide

theorem test_header_checked :
    Config.wellFormed { Config.tc1 with startByte := 256 } = false ∧
      Config.wellFormed { Config.tc1 with localAddr := 256 } = false ∧
      Config.wellFormed { Config.tc1 with serverAddr := 256 } = false := by decide

theorem test_layout_checked :
    Config.wellFormed { Config.tc1 with payloadLayout := [0, 1, 2, 2] } = false ∧
      Config.wellFormed { Config.tc1 with payloadLayout := [0, 1, 2] } = false := by decide

theorem test_key_checked : Config.wellFormed { Config.tc1 with key := [1, 2, 3, 4, 5, 6, 7] } = false := by decide

/-- `ENC_XOR` but for one key, under which two blocks change places. -/
def swap (k : Block) : CipherTable := [⟨encXor k k, k, k⟩, ⟨k, k, encXor k k⟩]

/-- A table that lists one value of `ENC` and not its inverse breaks the round-trip law, and so does one that lists a value of
`DEC` alone; a lawful pair other than `ENC_XOR` is accepted. -/
theorem test_cipher_checked :
    Config.wellFormed { Config.tc1e with enc := [⟨⟨0, 0, 0, 0, 0, 0, 0, 0⟩, ⟨1, 2, 3, 4, 5, 6, 7, 8⟩, ⟨9, 9, 9, 9, 9, 9, 9, 9⟩⟩] } =
        false ∧
      Config.wellFormed { Config.tc1e with dec := [⟨⟨0, 0, 0, 0, 0, 0, 0, 0⟩, ⟨1, 2, 3, 4, 5, 6, 7, 8⟩, ⟨9, 9, 9, 9, 9, 9, 9, 9⟩⟩] } =
        false ∧
      Config.wellFormed { Config.tc1e with enc := swap ⟨1, 2, 3, 4, 5, 6, 7, 8⟩, dec := swap ⟨1, 2, 3, 4, 5, 6, 7, 8⟩ } =
        true := by decide

theorem test_configurations_accepted :
    Config.wellFormed Config.tc1 = true ∧ Config.wellFormed Config.tc1e = true ∧
      Config.wellFormed { Config.tc1 with capacity := 1 } = true ∧
      Config.wellFormed { Config.tc1 with capacity := 2 ^ 31, startByte := 255, payloadLayout := [3, 0, 1, 2] } = true := by
  decide

theorem test_opcode_checked :
    Transaction.wellFormed ⟨.producer, 0x0800000000⟩ = false ∧ Transaction.opcodeAssigned ⟨.producer, 0x0000000000⟩ = false := by
  decide

theorem test_internal_checked :
    Transaction.wellFormed ⟨.consumer, 0x8000000000⟩ = false ∧ Transaction.external ⟨.consumer, 0x8100000000⟩ = false := by decide

theorem test_operand_checked :
    Transaction.wellFormed ⟨.producer, 0x0300000001⟩ = false ∧ Transaction.operandOk ⟨.uart, 0x0200000001⟩ = false := by decide

theorem test_transactions_accepted :
    Transaction.wellFormed ⟨.producer, 0x01FFFFFFFF⟩ = true ∧ Transaction.wellFormed ⟨.host, 0x0700000000⟩ = true := by decide

/-! ### Decoding: the words of L2-E and of the opcode map R82 -/

theorem test_decode_push : decode 0x0100010002 = .ok (.push 0x00010002) := by decide
theorem test_decode_push_zero : decode 0x0100000000 = .ok (.push 0) := by decide
theorem test_decode_depth : decode 0x0200000000 = .ok .depth := by decide
theorem test_decode_status : decode 0x0300000000 = .ok .status := by decide
theorem test_decode_txstep : decode 0x0400000000 = .ok .txstep := by decide
theorem test_decode_txdone : decode 0x0500000000 = .ok .txdone := by decide
theorem test_decode_ieon : decode 0x0600000000 = .ok .ieon := by decide
theorem test_decode_reset : decode 0x0700000000 = .ok .reset := by decide
theorem test_decode_refill : decode 0x8000000000 = .ok .refill := by decide
theorem test_decode_pop : decode 0x8100000000 = .ok .pop := by decide

/-- L2-E8 to L2-E13, L2-E16 and L2-E17. -/
theorem test_decode_refuses :
    decode 0x0000000000 = .error .opcode ∧ decode 0x0800000000 = .error .opcode ∧ decode 0x7F00000000 = .error .opcode ∧
      decode 0x8200000000 = .error .opcode ∧ decode 0xFF00000000 = .error .opcode ∧ decode 0x0300000001 = .error .operand ∧
      decode 0x8000000005 = .error .internal ∧ decode 0x0200000001 = .error .operand := by decide

theorem test_table_words :
    decodeTableWord 40 0x01FFFFFFFF = some (.push 0xFFFFFFFF) ∧ decodeTableWord 40 0x8100000000 = some .pop ∧
      decodeTableWord 40 0x0800000000 = none := by decide

/-- The first vectors of L2-E in the ten digits of R99. -/
theorem test_hex_digits :
    hexDigits (encode (.push 0x00010002)) = ['0', '1', '0', '0', '0', '1', '0', '0', '0', '2'] := by decide

/-- `C: PUSH 0x9 ; x` and `TICKS 17` as R98 and R102 read them. -/
theorem test_read_line :
    readLine ['C', ':', ' ', 'P', 'U', 'S', 'H', ' ', '0', 'x', '9', ' ', ';', ' ', 'x'] = some (.op (some .consumer) (.push 9)) ∧
      readLine ['T', 'I', 'C', 'K', 'S', ' ', '1', '7'] = some (.ticks 17) := by decide

/-- L2-E19. -/
theorem test_tick_encoding :
    tickOps = [⟨.uart, 0x0500000000⟩, ⟨.consumer, 0x0400000000⟩] := by decide

/-! ### The states that the tests start from -/

/-- Power-on under TC1. -/
def on : State := State.powerOn Config.tc1

/-- The state with `agent` as the issuer of the operation. -/
def issuedBy (a : Agent) (s : State) : State := { s with agent := a }

/-- The block disabled. -/
def off : State := State.powerOn { Config.tc1 with traceEnabled := false }

/-- One word waiting (the start of L2-T4). -/
def one : State := { on with mem := [(0, 0x11223344)], wi := 1 }

/-- A full queue. -/
def full : State := { on with mem := [(0, 0x11223344), (1, 0x55667788), (2, 0x99AABBCC), (3, 0xDDEEFF00)], wi := 4 }

/-- A depth above the capacity, which no run reaches. -/
def beyond : State := { on with wi := 5 }

/-- One word counted, its slot unwritten: no run reaches it. -/
def hollow : State := { on with wi := 1 }

/-- The start of L2-R1: a frame in flight after three bytes, and one word waiting. -/
def mid : State :=
  { on with
    mem := [(0, 0x11223344), (1, 0x55667788)], wi := 2, ri := 1
    buf := ⟨some 0xEB, some 0x60, some 0x60, some 0xAF, some 0x33, some 0x44, some 0x11, some 0x22⟩
    cur := 3, txState := true, ie := true, regEmpty := false, wire := [0xEB, 0x60, 0x60]
    log := [.tx 0xEB, .ieEn, .tx 0x60, .ieEn, .tx 0x60, .ieEn] }

/-- The same with the register empty again. -/
def midReady : State := { mid with regEmpty := true }

/-- The last byte of the frame still to send, nothing waiting. -/
def lastByte : State := { midReady with cur := 7, ri := 2 }

/-- One word waiting across the wrap of the write counter. -/
def wrapped : State := { on with mem := [(3, 0x55667788)], wi := 0, ri := 0xFFFFFFFF }

/-- A cursor inside a frame whose bytes are unwritten: no run reaches it. -/
def blank : State := { on with cur := 7 }

/-- The last place of a queue of capacity 4 free. -/
def nearlyFull : State := { full with wi := 3 }

/-- Drained and idle, with the interrupt enabled by the host (L2-T14). -/
def kicked : State := { one with ie := true }

/-- The operation or step answers exactly this next state. -/
def gives (r : Result) (t : State) : Bool :=
  match r with
  | .next u => decide (u = t)
  | .fault _ => false
  | .refused _ => false

/-! ### One step of each operation -/

/-- L2-Q1. -/
theorem test_push_accepted :
    gives (exec (.push 0x11223344) (issuedBy .producer on))
      { issuedBy .producer on with mem := [(0, 0x11223344)], wi := 1, resp := 1 } = true := by decide

/-- L2-Q3: the counter wraps, slot 3 is written. -/
theorem test_push_wraps :
    gives (exec (.push 0xA) (issuedBy .producer { on with wi := 0xFFFFFFFF, ri := 0xFFFFFFFE }))
      { issuedBy .producer on with mem := [(3, 0xA)], wi := 0, ri := 0xFFFFFFFE, resp := 1 } = true := by decide

/-- L2-Q11: the depth across the wrap. -/
theorem test_depth_wraps :
    gives (exec .depth (issuedBy .producer { on with wi := 1, ri := 0xFFFFFFFE }))
      { issuedBy .producer on with wi := 1, ri := 0xFFFFFFFE, resp := 3 } = true := by decide

/-- L2-Q16. -/
theorem test_depth_refused :
    gives (exec .depth (issuedBy .uart on))
      { issuedBy .uart on with refused := true, result := .refused .agent } = true := by decide

/-- L2-Q10: the popped slot keeps its word. -/
theorem test_pop_wraps :
    gives (exec .pop (issuedBy .consumer wrapped))
      { issuedBy .consumer wrapped with ri := 0, resp := 0x55667788 } = true := by decide

/-- L2-F15. -/
theorem test_refill_builds :
    gives (exec .refill (issuedBy .consumer one)) { issuedBy .consumer one with
        ri := 1, cur := 0, resp := 8
        buf := ⟨some 0xEB, some 0x60, some 0x60, some 0xAF, some 0x33, some 0x44, some 0x11, some 0x22⟩ } = true := by decide

/-- L2-F16: the header is rewritten before the cipher pass. -/
theorem test_refill_rewrites_header :
    gives (exec .refill (issuedBy .consumer { one with
        cfg := Config.tc1e
        buf := ⟨some 0xEA, some 0x62, some 0x63, some 0xAB, some 0x36, some 0x42, some 0x16, some 0x2A⟩ }))
      { issuedBy .consumer one with
        cfg := Config.tc1e, ri := 1, cur := 0, resp := 8
        buf := ⟨some 0xEA, some 0x62, some 0x63, some 0xAB, some 0x36, some 0x42, some 0x16, some 0x2A⟩ } = true := by decide

/-- L2-T4. -/
theorem test_txstep_starts_frame :
    gives (exec .txstep (issuedBy .consumer one)) { issuedBy .consumer one with
        ri := 1, cur := 1, txState := true, ie := true, regEmpty := false, wire := [0xEB], log := [.tx 0xEB, .ieEn]
        buf := ⟨some 0xEB, some 0x60, some 0x60, some 0xAF, some 0x33, some 0x44, some 0x11, some 0x22⟩ } = true := by decide

/-- L2-T3. -/
theorem test_txstep_idle : gives (exec .txstep (issuedBy .consumer on))
      { issuedBy .consumer on with log := [.ieDis] } = true := by decide

/-- L2-T9 reads 1 while a frame is in flight. -/
theorem test_status_sending : gives (exec .status (issuedBy .producer mid))
      { issuedBy .producer mid with resp := 1 } = true := by decide

/-- L2-T11: the flag is not read where the block is disabled. -/
theorem test_status_disabled :
    gives (exec .status (issuedBy .producer { off with txState := true }))
      (issuedBy .producer { off with txState := true }) = true := by decide

/-- L2-T12. -/
theorem test_txdone_empties : gives (exec .txdone (issuedBy .uart mid)) (issuedBy .uart midReady) = true := by decide

/-- L2-T14: the flag and the log stay. -/
theorem test_ieon_enables : gives (exec .ieon (issuedBy .host one))
      (issuedBy .host kicked) = true ∧ kicked.irqPending = true := by decide

/-- L2-R1. -/
theorem test_reset_mid_frame :
    gives (exec .reset (issuedBy .host mid)) { issuedBy .host on with
        ie := true, regEmpty := false, wire := [0xEB, 0x60, 0x60]
        log := [.tx 0xEB, .ieEn, .tx 0x60, .ieEn, .tx 0x60, .ieEn] } = true := by decide

/-- L2-R4: a mark survives RESET. -/
theorem test_reset_keeps_marks :
    gives (exec .reset (issuedBy .host { on with refused := true }))
      (issuedBy .host { on with refused := true }) = true := by decide

/-- L2-F7 and L2-F9. -/
theorem test_frames :
    plainFrame Config.tc1 0xEB606000 = ⟨0xEB, 0x60, 0x60, 0x00, 0x60, 0x00, 0xEB, 0x60⟩ ∧
      wireFrame Config.tc1e 0x80000001 = ⟨0xEA, 0x62, 0x63, 0x6E, 0x05, 0x07, 0x87, 0x08⟩ := by decide

/-- L2-F10, the layouts LE and BE. -/
theorem test_layouts :
    plainFrame { Config.tc1 with payloadLayout := Config.layoutLE } 0x11223344 =
        ⟨0xEB, 0x60, 0x60, 0xAF, 0x44, 0x33, 0x22, 0x11⟩ ∧
      plainFrame { Config.tc1 with payloadLayout := Config.layoutBE } 0x11223344 =
        ⟨0xEB, 0x60, 0x60, 0xAF, 0x11, 0x22, 0x33, 0x44⟩ := by decide

/-- L2-E17 at the port: the operand is checked before the agent. -/
theorem test_port_order_of_checks :
    gives (step { on with port := [⟨.uart, 0x0200000001⟩] })
      { issuedBy .uart on with refused := true, result := .refused .operand } = true := by decide

/-- An instruction placed where the step fetches is run by it. -/
theorem test_fetched_word_runs :
    gives (step (State.reset.withFetchWord 40 0x0111223344))
      { issuedBy .producer on with mem := [(0, 0x11223344)], wi := 1, resp := 1 } = true := by decide

/-! ### Witnesses: states and operands that meet the hypotheses of the statements -/

theorem inv_on : on.Inv := by constructor <;> decide
theorem inv_one : one.Inv := by constructor <;> decide
theorem inv_full : full.Inv := by constructor <;> decide
theorem inv_nearlyFull : nearlyFull.Inv := by constructor <;> decide
theorem inv_mid : mid.Inv := by constructor <;> decide
theorem inv_midReady : midReady.Inv := by constructor <;> decide
theorem inv_wrapped : wrapped.Inv := by constructor <;> decide
theorem inv_kicked : kicked.Inv := by constructor <;> decide

/-- One transaction of `i` by `a` pending. -/
def withPending (a : Agent) (i : Instr) (s : State) : State := { s with port := [⟨a, encode i⟩] }

theorem inv_withPending (a : Agent) (i : Instr) (s : State) (h : s.Inv) : (withPending a i s).Inv :=
  ⟨h.config, h.memory, h.slots, h.depth, h.written, h.cursor, h.frame, h.inFlight, h.paired, h.busy, h.wireLogged⟩

theorem witness_EncodeOfDecode : decode 0x8100000000 = .ok .pop ∧ decode 0x01FFFFFFFF = .ok (.push 0xFFFFFFFF) := by decide

/-- A configuration that is not valid. -/
def badConfig : Config := { Config.tc1 with capacity := 3 }

theorem witness_ValidConfigurations :
    Config.wellFormed { Config.tc1 with capacity := 1, startByte := 255 } = true ∧ badConfig.wellFormed = false ∧
      (withPending .producer (.push 5) { on with cfg := badConfig }).port = [⟨.producer, 0x0100000005⟩] ∧
      decode 0x0100000005 = .ok (.push 5) ∧ (Instr.push 5).format ≠ .internal ∧ Agent.producer ∈ issuers (.push 5) := by decide

/-- These 40 bits pending, issued by the producer. -/
def pendingBits (b : BitVec 40) : State := { on with port := [⟨.producer, b⟩] }

theorem witness_PortRefusesIllFormedTransactions :
    (pendingBits 0x0800000000).port = [⟨.producer, 0x0800000000⟩] ∧ (pendingBits 0x0800000000).cfg.wellFormed = true ∧
      (0x08 ≤ (0x0800000000#40).toNat / 2 ^ 32 ∧ (0x0800000000#40).toNat / 2 ^ 32 ≤ 0x7F) ∧
      (0x8100000000#40).toNat / 2 ^ 32 = 0x81 ∧
      (2 ≤ (0x0200000001#40).toNat / 2 ^ 32 ∧ (0x0200000001#40).toNat / 2 ^ 32 ≤ 7) ∧
      (0x0200000001#40).toNat % 2 ^ 32 ≠ 0 := by decide

theorem witness_InvalidConfigurationRefusesEverything :
    { pendingBits 0x0800000000 with cfg := badConfig : State }.port = [⟨.producer, 0x0800000000⟩] ∧
      badConfig.wellFormed = false := by decide

theorem witness_PortRefuses_reserved :
    ∀ n ∈ [0x0000000000, 0x0800000000, 0x7F00000000, 0x8200000000, 0xFFFFFFFFFF],
      n / 2 ^ 32 = 0 ∨ (0x08 ≤ n / 2 ^ 32 ∧ n / 2 ^ 32 ≤ 0x7F) ∨ 0x82 ≤ n / 2 ^ 32 := by decide

theorem witness_PortRefuses_internal :
    ∀ n ∈ [0x8000000000, 0x81FFFFFFFF], n / 2 ^ 32 = 0x80 ∨ n / 2 ^ 32 = 0x81 := by decide

theorem witness_PortRefuses_operand :
    ∀ n ∈ [0x0200000001, 0x07FFFFFFFF], (2 ≤ n / 2 ^ 32 ∧ n / 2 ^ 32 ≤ 7) ∧ n % 2 ^ 32 ≠ 0 := by decide

/-- For every operation of the port one agent may issue it and another may not. -/
theorem witness_AgentsIssueOnlyTheirOperations :
    ∀ i ∈ [Instr.push 0, .depth, .status, .txstep, .txdone, .ieon, .reset], i.format ≠ .internal ∧
      (∃ a ∈ [Agent.producer, .consumer, .uart, .host], (issuedBy a on).agent ∈ issuers i) ∧
        ∃ a ∈ [Agent.producer, .consumer, .uart, .host], (issuedBy a on).agent ∉ issuers i := by decide

theorem witness_InternalOperationsAreTheConsumers :
    (issuedBy .consumer on).agent = .consumer ∧ (issuedBy .uart on).agent ≠ .consumer := by decide

theorem witness_IssuersWhereTheTablesDiffer :
    (issuedBy .uart on).agent = .uart ∧ (issuedBy .producer on).agent = .producer := by decide

theorem witness_StepRunsTheDecodedInstruction :
    (withPending .host .reset mid).port = [⟨.host, 0x0700000000⟩] ∧ mid.cfg.wellFormed = true ∧
      decode 0x0700000000 = .ok .reset ∧ Instr.format .reset ≠ .internal := by decide

theorem witness_OnlyAnEmptyPortStops : on.port = [] ∧ (withPending .producer .depth on).port ≠ [] := by decide

theorem witness_RefusedTransactionsChangeNothing :
    (withPending .consumer .pop one).served = none ∧ (withPending .uart .depth on).served = none := by decide

theorem witness_PushAppendsOrDrops :
    (issuedBy .uart on).agent ≠ .producer ∧
      ((issuedBy .producer off).agent = .producer ∧ off.cfg.traceEnabled = false) ∧ on.cfg.traceEnabled = true ∧
      beyond.cfg.capacity < beyond.depth.toNat ∧ full.depth.toNat = full.cfg.capacity ∧
      on.depth.toNat < on.cfg.capacity ∧ nearlyFull.depth.toNat + 1 = nearlyFull.cfg.capacity := by decide

theorem witness_DepthReportsTheCount :
    (issuedBy .host on).agent ≠ .uart ∧ off.cfg.traceEnabled = false ∧
      on.cfg.traceEnabled = true ∧ beyond.cfg.capacity < beyond.depth.toNat ∧ full.depth.toNat ≤ full.cfg.capacity := by decide

theorem witness_PopInsideRefill :
    on.depth.toNat = 0 ∧ (beyond.cfg.capacity < beyond.depth.toNat ∧ 0 < beyond.depth.toNat) ∧
      (0 < hollow.depth.toNat ∧ hollow.depth.toNat ≤ hollow.cfg.capacity ∧
        Memory.read hollow.mem (slotOf hollow.cfg hollow.ri) = none) ∧
      (full.depth.toNat ≤ full.cfg.capacity ∧ Memory.read full.mem (slotOf full.cfg full.ri) = some 0x11223344) ∧
      (pendingBits 0x8100000000).port = [⟨.producer, 0x8100000000⟩] ∧
      (pendingBits 0x8100000000).cfg.wellFormed = true := by decide

theorem witness_PopTakesTheHeadWord :
    (issuedBy .consumer on).agent = .consumer ∧ on.depth.toNat = 0 ∧
      (beyond.cfg.capacity < beyond.depth.toNat ∧ 0 < beyond.depth.toNat) ∧
      (0 < hollow.depth.toNat ∧ hollow.depth.toNat ≤ hollow.cfg.capacity ∧
        Memory.read hollow.mem (slotOf hollow.cfg hollow.ri) = none) ∧
      (full.depth.toNat ≤ full.cfg.capacity ∧ Memory.read full.mem (slotOf full.cfg full.ri) = some 0x11223344) := by decide

theorem witness_PushAppendsToTheQueue :
    ∃ s t : State, s.Inv ∧ s.agent = .producer ∧ s.cfg.traceEnabled = true ∧ s.depth.toNat < s.cfg.capacity ∧
      exec (.push 7) s = .next t :=
  ⟨issuedBy .producer nearlyFull, _, by constructor <;> decide, rfl, rfl, by decide, rfl⟩

theorem witness_PopRemovesTheFirstOfTheQueue :
    ∃ s : State, s.Inv ∧ s.agent = .consumer ∧ 0 < s.depth.toNat :=
  ⟨issuedBy .consumer wrapped, by constructor <;> decide, rfl, by decide⟩

theorem witness_QueueLengthIsTheDepth : full.Inv := inv_full

theorem witness_PlainFrameLayout : Config.tc1.wellFormed = true := by decide

theorem witness_PayloadIsThePermutedWord :
    Config.wellFormed { Config.tc1 with payloadLayout := [3, 0, 1, 2] } = true := by decide

theorem witness_WireFrameDeciphers :
    Config.tc1e.wellFormed = true ∧ Config.tc1.wellFormed = true ∧ Config.tc1e.encrypt = true ∧ Config.tc1.encrypt = false := by decide

theorem witness_RefillInsideTxstep :
    mid.cur.val < 8 ∧ (on.cur.val = 8 ∧ on.depth.toNat = 0) ∧
      (hollow.cur.val = 8 ∧ 0 < hollow.depth.toNat ∧ (match hollow.popWord with
        | .error c => c = .readUnwritten
        | .ok _ => False)) ∧
      (full.cur.val = 8 ∧ 0 < full.depth.toNat ∧ full.depth.toNat ≤ full.cfg.capacity ∧
        Memory.read full.mem (slotOf full.cfg full.ri) = some 0x11223344) ∧
      (pendingBits 0x8000000000).port = [⟨.producer, 0x8000000000⟩] ∧
      (pendingBits 0x8000000000).cfg.wellFormed = true :=
  ⟨by decide, by decide, ⟨rfl, by decide, rfl⟩, by decide, rfl, by decide⟩

theorem witness_RefillBuildsTheNextFrame :
    (issuedBy .consumer mid).agent = .consumer ∧ mid.cur.val < 8 ∧ blank.cur.val = 7 ∧
      (on.cur.val = 8 ∧ on.depth.toNat = 0) ∧ (beyond.cur.val = 8 ∧ beyond.cfg.capacity < beyond.depth.toNat) ∧
      (hollow.cur.val = 8 ∧ 0 < hollow.depth.toNat ∧ hollow.depth.toNat ≤ hollow.cfg.capacity ∧
        Memory.read hollow.mem (slotOf hollow.cfg hollow.ri) = none) ∧
      (full.cur.val = 8 ∧ full.depth.toNat ≤ full.cfg.capacity ∧
        Memory.read full.mem (slotOf full.cfg full.ri) = some 0x11223344) := by decide

theorem witness_TxstepSendsOneByteOrGoesIdle :
    (issuedBy .uart on).agent ≠ .consumer ∧ (issuedBy .consumer on).agent = .consumer ∧ off.cfg.traceEnabled = false ∧
      (mid.cfg.traceEnabled = true ∧ mid.regEmpty = false) ∧
      (midReady.regEmpty = true ∧ midReady.buf.get ⟨midReady.cur.val, by decide⟩ = some 0xAF) ∧
      (lastByte.regEmpty = true ∧ lastByte.buf.get ⟨lastByte.cur.val, by decide⟩ = some 0x22) ∧
      (on.regEmpty = true ∧ on.cur.val = 8 ∧ on.depth.toNat = 0) ∧
      (full.regEmpty = true ∧ full.cur.val = 8 ∧ 0 < full.depth.toNat ∧ full.depth.toNat ≤ full.cfg.capacity ∧
        Memory.read full.mem (slotOf full.cfg full.ri) = some 0x11223344) := by decide

theorem witness_TxstepOutsideTheInvariant :
    ((issuedBy .consumer beyond).agent = .consumer ∧ beyond.cfg.traceEnabled = true ∧ beyond.regEmpty = true) ∧
      (beyond.cur.val = 8 ∧ 0 < beyond.depth.toNat ∧ beyond.cfg.capacity < beyond.depth.toNat) ∧
      (hollow.cur.val = 8 ∧ 0 < hollow.depth.toNat ∧ hollow.depth.toNat ≤ hollow.cfg.capacity ∧
        Memory.read hollow.mem (slotOf hollow.cfg hollow.ri) = none) ∧
      (blank.regEmpty = true ∧ blank.buf.get ⟨blank.cur.val, by decide⟩ = none) := by decide

theorem witness_StatusReportsTheFlag :
    (issuedBy .producer mid).agent ≠ .uart ∧ off.cfg.traceEnabled = false ∧
      (mid.cfg.traceEnabled = true ∧ mid.txState = true) ∧ on.txState = false := by decide

theorem witness_TxdoneEmptiesTheRegister :
    (issuedBy .uart mid).agent = .uart ∧ mid.cfg.traceEnabled = true ∧ (issuedBy .consumer mid).agent ≠ .uart := by
  decide

theorem witness_IeonEnablesTheInterrupt :
    (issuedBy .host on).agent = .host ∧ on.cfg.traceEnabled = true ∧
      (issuedBy .consumer on).agent = .consumer ∧ (issuedBy .uart on).agent = .uart := by decide

theorem witness_CollaboratorEventsInADisabledBlock :
    off.cfg.traceEnabled = false ∧ (issuedBy .uart off).agent = .uart ∧ (issuedBy .host off).agent = .host := by decide

theorem witness_OneByteInAStep : ∃ t, step (withPending .consumer .txstep one) = .next t := ⟨_, rfl⟩

theorem witness_TxstepLeavesNoRequestPending :
    ∃ s t : State, s.Inv ∧ s.cfg.traceEnabled = true ∧ s.served = some .txstep ∧ step s = .next t :=
  ⟨withPending .consumer .txstep kicked, _, inv_withPending _ _ _ inv_kicked, rfl, by decide, rfl⟩

theorem witness_TxstepPairsFlagAndEnable :
    ∃ s t : State, s.Inv ∧ s.cfg.traceEnabled = true ∧ s.regEmpty = true ∧ s.served = some .txstep ∧ step s = .next t :=
  ⟨withPending .consumer .txstep on, _, inv_withPending _ _ _ inv_on, rfl, rfl, by decide, rfl⟩

theorem witness_ResetInitialisesTheContext :
    (issuedBy .producer mid).agent ≠ .host ∧ (issuedBy .host midReady).agent = .host ∧
      midReady.cfg.traceEnabled = true ∧ midReady.regEmpty = true := by decide

theorem witness_PowerOnMeetsTheInvariant : 
    Config.wellFormed { Config.tc1 with capacity := 1, payloadLayout := [3, 0, 1, 2] } = true := by decide

theorem witness_StepKeepsTheInvariant : ∃ s t : State, s.Inv ∧ step s = .next t :=
  ⟨withPending .consumer .txstep midReady, _, inv_withPending _ _ _ inv_midReady, rfl⟩

theorem witness_FaultsAreNotReached : ∃ s t : State, s.Inv ∧ step s = .next t :=
  ⟨withPending .consumer .txstep one, _, inv_withPending _ _ _ inv_one, rfl⟩

theorem witness_MarksAreSticky :
    ∃ s t : State, step s = .next t ∧ s.refused = true ∧ s.fault ≠ none :=
  ⟨withPending .host .reset { on with refused := true, fault := some .popEmpty }, _, rfl, rfl, by decide⟩

theorem witness_OnlyItsWritersChangeState : ∃ t, step (withPending .host .reset mid) = .next t := ⟨_, rfl⟩

/-- A second fault of another kind. -/
theorem witness_LaterFaultReplacesAnEarlierOne :
    ∃ s t u v : State, s.fault = some .popEmpty ∧ exec .depth s = .next t ∧ t.result = .fault .invariant ∧
      u.fault = some .popEmpty ∧ step u = .next v ∧ v.result = .fault .invariant :=
  ⟨{ issuedBy .host beyond with fault := some .popEmpty }, _,
    withPending .host .depth { beyond with fault := some .popEmpty }, _, rfl, rfl, rfl, rfl, rfl, rfl⟩

theorem witness_ServedOperationsBelongToTheirAgents :
    ∀ p ∈ [(Agent.producer, Instr.push 1), (.consumer, .txstep), (.uart, .txdone), (.host, .reset), (.host, .ieon)],
      (withPending p.1 p.2 on).served = some p.2 := by decide

theorem witness_DepthMovesOneWayForEachAgent :
    ∃ s t : State, s.Inv ∧ step s = .next t ∧ (∀ w, s.served ≠ some (.push w)) ∧ s.served ≠ some .txstep ∧
      s.served ≠ some .reset :=
  ⟨withPending .uart .txdone mid, _, inv_withPending _ _ _ inv_mid, rfl,
    fun w (h : some Instr.txdone = some (.push w)) => Instr.noConfusion (Option.some.inj h), by decide, by decide⟩

theorem witness_StreamIsKept :
    ∃ s t : State, s.Inv ∧ step s = .next t ∧ s.served = some (.push 5) ∧ s.cfg.traceEnabled = true ∧
      s.depth.toNat < s.cfg.capacity :=
  ⟨withPending .producer (.push 5) nearlyFull, _, inv_withPending _ _ _ inv_nearlyFull, rfl, by decide, rfl, by decide⟩

/-- 5 bytes of the frame in flight and 8 of the waiting word; and a block with nothing to send. -/
theorem witness_TicksSendTheWholeStream :
    (∃ s : State, s.Inv ∧ s.cfg.traceEnabled = true ∧ 13 = (8 - s.cur.val) + 8 * s.depth.toNat ∧
        s.port = ticksOps 13 ++ []) ∧
      ∃ s : State, s.Inv ∧ s.cfg.traceEnabled = true ∧ 0 = (8 - s.cur.val) + 8 * s.depth.toNat ∧
        s.port = ticksOps (0 + 1) ++ [] :=
  ⟨⟨{ mid with port := ticksOps 13 }, by constructor <;> decide, rfl, by decide, by decide⟩,
    ⟨{ on with port := ticksOps 1 }, by constructor <;> decide, rfl, by decide, by decide⟩⟩

theorem witness_KickSendsTheFirstWaitingWord :
    ∃ s : State, s.Inv ∧ s.agent = .consumer ∧ s.cfg.traceEnabled = true ∧ s.regEmpty = true ∧ s.cur = 8 ∧
      0 < s.depth.toNat :=
  ⟨issuedBy .consumer one, by constructor <;> decide, rfl, rfl, rfl, rfl, by decide⟩

theorem witness_MaskedBlockStaysSilent :
    ∃ (s t : State) (k : Kicks), s.ie = false ∧ k.asked = 0 ∧ s.interruptDriven k ∧ s.served ≠ some .ieon ∧
      step s = .next t :=
  ⟨withPending .producer (.push 5) on, _, Kicks.none, rfl, rfl,
    fun (h : some (Instr.push 5) = some .txstep) => Instr.noConfusion (Option.some.inj h), by decide, rfl⟩

/-- The frame sent and nothing waiting. -/
def sent : State := { mid with cur := 8, ri := 2 }

/-- Both cases of the statement: a run of a TXDONE and the idle TXSTEP, and one of the TXDONE alone. -/
theorem witness_IdleConvergence :
    ∀ p ∈ [[⟨.uart, encode .txdone⟩, ⟨.consumer, encode .txstep⟩], [⟨.uart, encode .txdone⟩]],
      ∃ s t : State, s.port = p ∧ s.Inv ∧ s.cfg.traceEnabled = true ∧ s.cur.val = 8 ∧ s.depth.toNat = 0 ∧
        s.txState = true ∧ State.interruptDrivenRun p.length Kicks.none s ∧
        State.along (fun u => (∀ w, u.served ≠ some (.push w)) ∧ u.served ≠ some .ieon ∧ u.served ≠ some .reset) p.length s ∧
        Sys2Proof.core.run p.length s = .next t := by
  have quiet : ∀ {o : Option Instr}, (o = some .txdone ∨ o = some .txstep) →
      (∀ w, o ≠ some (.push w)) ∧ o ≠ some .ieon ∧ o ≠ some .reset := by
    rintro o (rfl | rfl) <;> simp
  have done {o : Option Instr} {q : Prop} (h : o = some .txdone) : o = some .txstep → q := by
    subst h
    simp
  intro p hp
  simp only [List.mem_cons, List.not_mem_nil, or_false] at hp
  rcases hp with rfl | rfl
  · exact ⟨{ sent with port := [⟨.uart, encode .txdone⟩, ⟨.consumer, encode .txstep⟩] }, _, rfl, by constructor <;> decide, rfl, rfl,
      by decide, rfl, ⟨done (by decide), fun _ => .inl rfl, trivial⟩,
      ⟨quiet (.inl (by decide)), quiet (.inr (by decide)), trivial⟩, rfl⟩
  · exact ⟨{ sent with port := [⟨.uart, encode .txdone⟩] }, _, rfl, by constructor <;> decide, rfl, rfl,
      by decide, rfl, ⟨done (by decide), trivial⟩, ⟨quiet (.inl (by decide)), trivial⟩, rfl⟩

/-- R245: one kick for each accepted PUSH whose STATUS answers 0, so two after PUSH, PUSH, STATUS, STATUS. -/
theorem test_kicks_asked_for_each_push :
    let push : Kicks → Kicks := fun k => k.after (withPending .producer (.push 5) on) { on with resp := 1 }
    let status : Kicks → Kicks := fun k => k.after (withPending .producer .status one) one
    push (push Kicks.none) = ⟨2, 0⟩ ∧ status (status (push (push Kicks.none))) = ⟨0, 2⟩ ∧ status Kicks.none = Kicks.none := by
  decide

/-- R245: a kick asked for is made by the TXSTEP of P3, though nothing is pending, or by the IEON of P9, after which the TXSTEP
needs the pending request that IEON raises and no kick is left. -/
theorem test_kick_made_once :
    Kicks.after ⟨0, 1⟩ (withPending .consumer .txstep one) one = Kicks.none ∧ one.irqPending = false ∧
      Kicks.after ⟨0, 1⟩ (withPending .producer .ieon one) kicked = Kicks.none ∧
      Kicks.none.after (withPending .consumer .txstep kicked) on = Kicks.none ∧ kicked.irqPending = true := by decide

theorem witness_PushAndTxstepCommute :
    nearlyFull.Inv ∧ nearlyFull.cfg.traceEnabled = true ∧ 0 < nearlyFull.depth.toNat ∧
      nearlyFull.depth.toNat < nearlyFull.cfg.capacity :=
  ⟨inv_nearlyFull, by decide⟩

end Sys2Proof.Tests
end

section
/-! PROOFS. The state (spec/10_state.md): the marks along a step (R32) and the power-on values (R35, R39, R232). -/

namespace Sys2Proof.Machine

/-! ### The marks (R32, R202) -/

/-- How the marks of `t` follow from those of `s` when the operation was run and not refused: it ended well and left both
marks, or it ended in a fault and recorded that fault's code (R202). -/
def State.marksFollow (s t : State) : Prop :=
  t.refused = s.refused ∧ ((t.result = .ok ∧ t.fault = s.fault) ∨ ∃ c, t.result = .fault c ∧ t.fault = some c)

theorem marksFollow_respond {s u : State} (hr : u.refused = s.refused) (hf : u.fault = s.fault) (v : Word) :
    s.marksFollow (u.respond v) :=
  ⟨hr, .inl ⟨rfl, hf⟩⟩

theorem marksFollow_raise {s u : State} (hr : u.refused = s.refused) (c : FaultCode) : s.marksFollow (u.raise c) :=
  ⟨hr, .inr ⟨c, rfl, rfl⟩⟩

theorem marksFollow_raiseOpen {s u : State} (hr : u.refused = s.refused) (c : FaultCode) :
    s.marksFollow (u.raiseOpen c) :=
  ⟨hr, .inr ⟨c, rfl, rfl⟩⟩

theorem marksFollow_whenEnabled {s : State} {op : State → State} (h : s.marksFollow (op s)) :
    s.marksFollow (whenEnabled op s) := by
  cases he : s.cfg.traceEnabled with
  | true => rwa [whenEnabled_on he]
  | false =>
    rw [whenEnabled_off he]
    exact marksFollow_respond rfl rfl 0

theorem marksFollow_pushWord (w : Word) (s : State) : s.marksFollow (s.pushWord w) := by
  unfold State.pushWord
  split
  · exact marksFollow_raiseOpen rfl .invariant
  · split
    · exact marksFollow_respond rfl rfl 1
    · exact marksFollow_respond rfl rfl 0

theorem marksFollow_reportDepth (s : State) : s.marksFollow s.reportDepth := by
  unfold State.reportDepth
  split
  · exact marksFollow_raiseOpen rfl .invariant
  · exact marksFollow_respond rfl rfl s.depth

theorem marksFollow_popAndRespond (s : State) : s.marksFollow s.popAndRespond := by
  unfold State.popAndRespond
  rcases popWord_cases s with ⟨_, h⟩ | ⟨_, _, h⟩ | ⟨_, _, _, h⟩ | ⟨w, _, _, _, h⟩ <;> rw [h]
  · exact marksFollow_raiseOpen rfl .popEmpty
  · exact marksFollow_raiseOpen rfl .invariant
  · exact marksFollow_raiseOpen rfl .readUnwritten
  · exact marksFollow_respond rfl rfl w

theorem marksFollow_refillAndRespond (s : State) : s.marksFollow s.refillAndRespond := by
  unfold State.refillAndRespond
  rcases refillFrame_cases s with ⟨_, h⟩ | ⟨_, _, h⟩ | ⟨c, _, _, _, h⟩ | ⟨w, _, _, _, _, h⟩ <;> rw [h]
  · exact marksFollow_respond rfl rfl _
  · exact marksFollow_respond rfl rfl _
  · exact marksFollow_raiseOpen rfl c
  · exact marksFollow_respond rfl rfl _

/-- Taking a byte of the frame leaves the marks alone, also where the byte is unwritten. -/
theorem takeByte_marks (s : State) : s.takeByte.2.refused = s.refused ∧ s.takeByte.2.fault = s.fault := by
  rcases takeByte_cases s with ⟨b, _, h⟩ | ⟨_, h⟩ <;> simp [h]

theorem marksFollow_sendByte {s u : State} (hr : u.refused = s.refused) (hf : u.fault = s.fault) :
    s.marksFollow u.sendByte := by
  obtain ⟨hrefused, hfault⟩ := takeByte_marks u
  exact marksFollow_respond (by simp [hrefused, hr]) (by simp [hfault, hf]) 0

theorem marksFollow_transmitStep (s : State) : s.marksFollow s.transmitStep := by
  rcases transmitStep_cases s with
    ⟨_, h⟩ | ⟨c, _, _, _, _, h⟩ | ⟨_, _, _, h⟩ | ⟨_, _, h⟩ | ⟨w, _, _, _, _, _, h⟩ <;> rw [h]
  · exact marksFollow_respond rfl rfl 0
  · exact marksFollow_raise rfl c
  · exact marksFollow_respond rfl rfl 0
  · exact marksFollow_sendByte rfl rfl
  · exact marksFollow_sendByte rfl rfl

/-- No operation that is run touches the refusal mark, and it touches the fault mark only to record its own fault; RESET
leaves both (R231). -/
theorem effect_marksFollow (i : Instr) (s : State) : s.marksFollow (effect i s) := by
  cases i with
  | push w => exact marksFollow_whenEnabled (marksFollow_pushWord w s)
  | depth => exact marksFollow_whenEnabled (marksFollow_reportDepth s)
  | status => exact marksFollow_whenEnabled (marksFollow_respond rfl rfl (bitWord s.txState))
  | txstep => exact marksFollow_whenEnabled (marksFollow_transmitStep s)
  | txdone => exact marksFollow_respond rfl rfl 0
  | ieon => exact marksFollow_respond rfl rfl 0
  | reset => exact marksFollow_respond rfl rfl 0
  | refill => exact marksFollow_refillAndRespond s
  | pop => exact marksFollow_popAndRespond s

theorem refused_of_marksFollow {s t : State} (h : s.marksFollow t) : t.refused = s.refused := h.1

/-- A recorded fault is at most replaced by another code, never dropped. -/
theorem fault_ne_none_of_marksFollow {s t : State} (h : s.marksFollow t) (hs : s.fault ≠ none) : t.fault ≠ none := by
  obtain ⟨-, ⟨-, hkept⟩ | ⟨c, -, hraised⟩⟩ := h
  · rwa [hkept]
  · simp [hraised]

/-- Settles O40: a step either refuses, which sets one mark and leaves the other, or runs an operation, whose marks follow
from those before it. -/
theorem marksAreSticky : Obligations.MarksAreSticky := by
  intro s t h
  obtain ⟨x, rest, -, ⟨r, -, rfl⟩ | ⟨i, -, -, -, rfl⟩⟩ := step_cases h
  · exact ⟨fun _ => rfl, id⟩
  · have hm : (s.take x rest).marksFollow (effect i (s.take x rest)) := effect_marksFollow i (s.take x rest)
    exact ⟨(refused_of_marksFollow hm).trans, fault_ne_none_of_marksFollow hm⟩

/-! ### The power-on state (R35 to R41, R232) -/

@[simp] theorem powerOn_depth (c : Config) : (State.powerOn c).depth = 0 := BitVec.sub_self 0

/-- Every slot is unwritten at power-on (R36). -/
@[simp] theorem powerOn_read (c : Config) (a : Nat) : Memory.read (State.powerOn c).mem a = none := Memory.read_nil a

/-- The header constants stand in the buffer and its other bytes are unwritten (R37). -/
theorem powerOn_buf_toList (c : Config) :
    (State.powerOn c).buf.toList =
      [some (startByteOf c), some (localAddrOf c), some (serverAddrOf c), none, none, none, none, none] := rfl

@[simp] theorem powerOn_cursorState (c : Config) : (State.powerOn c).cursorState = .idle := rfl

/-- The register is empty at power-on, but the interrupt is masked, so no request is pending (R44). -/
@[simp] theorem powerOn_irqPending (c : Config) : (State.powerOn c).irqPending = false := rfl

/-- Settles O36: what is computed from the fields by the lemmas above, the fields themselves by what `State.powerOn` writes. -/
theorem powerOnValues : Obligations.PowerOnValues := by
  refine ⟨fun c => ⟨rfl, rfl, rfl, powerOn_depth c, powerOn_read c, powerOn_buf_toList c, ?cursor, ?flag,
    powerOn_cursorState c, ?register, ?interrupt, powerOn_irqPending c, ?wire, ?log, ?fault, ?refused⟩, ?resetState⟩
  case cursor | flag | register | interrupt | wire | log | fault | refused | resetState => rfl

end Sys2Proof.Machine
end

section
/-! PROOFS. The command encoding (spec/30_encoding.md): what the decoder answers for each part of the opcode map (R82, R84 to
R86), what the port refuses because of it, and the layout of the plaintext frame (R90, R91). -/

namespace Sys2Proof

/-! ### The decoder by opcode -/

/-- The opcode is read off the transaction as a number. -/
theorem opcodeField_eq_ofNat {t : BitVec 40} {n : Nat} (h : t.toNat / 2 ^ 32 = n) : opcodeField t = BitVec.ofNat 8 n := by
  rw [← h, ← opcodeField_toNat, BitVec.ofNat_toNat, BitVec.setWidth_eq]

theorem operandField_ne_zero {t : BitVec 40} (h : t.toNat % 2 ^ 32 ≠ 0) : operandField t ≠ 0#32 := by
  intro hz
  rw [← operandField_toNat, hz] at h
  exact h rfl

theorem decodePlain_of_ne_zero {opnd : Word} (h : opnd ≠ 0#32) (i : Instr) : decodePlain i opnd = .error .operand :=
  if_neg h

/-- An internal code is named or refused as such, as its operand is zero or not. -/
theorem decodeInternal_cases (i : Instr) (opnd : Word) :
    decodeInternal i opnd = .ok i ∨ decodeInternal i opnd = .error .internal :=
  (em (opnd = 0#32)).imp (fun h => if_pos h) (fun h => if_neg h)

/-- Every opcode outside the map of R82 is reserved (R84). -/
theorem decode_of_reserved_opcode {t : BitVec 40}
    (h : t.toNat / 2 ^ 32 = 0 ∨ (0x08 ≤ t.toNat / 2 ^ 32 ∧ t.toNat / 2 ^ 32 ≤ 0x7F) ∨ 0x82 ≤ t.toNat / 2 ^ 32) :
    decode t = .error .opcode := by
  rw [← opcodeField_toNat] at h
  unfold decode
  split
  case h_10 => rfl
  all_goals
    next hop =>
      rw [hop] at h
      exact absurd h (by decide)

/-- Opcodes 2 to 7 are the operations of formats N and E (R82), decoded with the check of R85. -/
theorem decode_of_plain_opcode {t : BitVec 40} (h : 2 ≤ t.toNat / 2 ^ 32 ∧ t.toNat / 2 ^ 32 ≤ 7) :
    ∃ i : Instr, (i.format = .none ∨ i.format = .event) ∧ decode t = decodePlain i (operandField t) := by
  have hcodes : t.toNat / 2 ^ 32 = 2 ∨ t.toNat / 2 ^ 32 = 3 ∨ t.toNat / 2 ^ 32 = 4 ∨ t.toNat / 2 ^ 32 = 5 ∨
      t.toNat / 2 ^ 32 = 6 ∨ t.toNat / 2 ^ 32 = 7 := by omega
  rcases hcodes with hop | hop | hop | hop | hop | hop
  · exact ⟨.depth, .inl rfl, by simp [decode, opcodeField_eq_ofNat hop]⟩
  · exact ⟨.status, .inl rfl, by simp [decode, opcodeField_eq_ofNat hop]⟩
  · exact ⟨.txstep, .inl rfl, by simp [decode, opcodeField_eq_ofNat hop]⟩
  · exact ⟨.txdone, .inr rfl, by simp [decode, opcodeField_eq_ofNat hop]⟩
  · exact ⟨.ieon, .inr rfl, by simp [decode, opcodeField_eq_ofNat hop]⟩
  · exact ⟨.reset, .inl rfl, by simp [decode, opcodeField_eq_ofNat hop]⟩

/-- Opcodes 0x80 and 0x81 are the internal operations (R82, R86). -/
theorem decode_of_internal_opcode {t : BitVec 40} (h : t.toNat / 2 ^ 32 = 0x80 ∨ t.toNat / 2 ^ 32 = 0x81) :
    ∃ i : Instr, i.format = .internal ∧ decode t = decodeInternal i (operandField t) := by
  rcases h with hop | hop
  · exact ⟨.refill, rfl, by simp [decode, opcodeField_eq_ofNat hop]⟩
  · exact ⟨.pop, rfl, by simp [decode, opcodeField_eq_ofNat hop]⟩

/-- A stray operand on a format N or E operation is refused (R85). -/
theorem decode_of_stray_operand {t : BitVec 40} (hop : 2 ≤ t.toNat / 2 ^ 32 ∧ t.toNat / 2 ^ 32 ≤ 7)
    (hz : t.toNat % 2 ^ 32 ≠ 0) : decode t = .error .operand := by
  obtain ⟨i, -, hd⟩ := decode_of_plain_opcode hop
  rw [hd, decodePlain_of_ne_zero (operandField_ne_zero hz)]

namespace Machine

/-! ### What the port refuses -/

/-- Under a valid configuration the port refuses what the decoder refuses, for the decoder's reason. -/
theorem accept_of_decode_error {c : Config} {x : Transaction} {r : RefusalReason} (hc : c.wellFormed = true)
    (hd : decode x.bits = .error r) : accept c x = .error r := by
  simp [accept, hc, hd]

/-- The port refuses an operation that decodes but is internal (R86). -/
theorem accept_of_decode_internal {c : Config} {x : Transaction} {i : Instr} (hc : c.wellFormed = true)
    (hd : decode x.bits = .ok i) (hi : i.format = .internal) : accept c x = .error .internal := by
  simp [accept, hc, hd, hi]

/-- An internal opcode is refused with any operand: by the port where the operand is zero, by the decoder otherwise. -/
theorem accept_of_internal_opcode {c : Config} {x : Transaction} (hc : c.wellFormed = true)
    (h : x.bits.toNat / 2 ^ 32 = 0x80 ∨ x.bits.toNat / 2 ^ 32 = 0x81) : accept c x = .error .internal := by
  obtain ⟨i, hi, hd⟩ := decode_of_internal_opcode h
  rcases decodeInternal_cases i (operandField x.bits) with hok | herr
  · exact accept_of_decode_internal hc (hd.trans hok) hi
  · exact accept_of_decode_error hc (hd.trans herr)

/-- A transaction that the port refuses leaves the port, and what is left records its issuer and the refusal and differs in
nothing else (R83, R202). -/
theorem step_of_accept_error {s : State} {x : Transaction} {rest : List Transaction} {r : RefusalReason}
    (hp : s.port = x :: rest) (ha : accept s.cfg x = .error r) :
    step s = .next
      { s with agent := x.issuer, port := rest, refused := true, resp := 0, result := .refused r } := by
  simp [step, hp, ha, State.refuse, State.take]

/-- Settles O6: each of the three ranges of opcodes makes `accept` answer its reason, and `step` then refuses for it. -/
theorem portRefusesIllFormedTransactions : Obligations.PortRefusesIllFormedTransactions := by
  intro s x rest hp hc
  refine ⟨fun hop => ?reserved, fun hop => ?internal, fun hop hz => ?operand⟩
  case reserved => exact step_of_accept_error hp (accept_of_decode_error hc (decode_of_reserved_opcode hop))
  case internal => exact step_of_accept_error hp (accept_of_internal_opcode hc hop)
  case operand => exact step_of_accept_error hp (accept_of_decode_error hc (decode_of_stray_operand hop hz))

/-! ### The plaintext frame -/

/-- The header constants of a valid configuration are bytes (R11, R206). -/
theorem wellFormed_header {c : Config} (h : c.wellFormed = true) :
    c.startByte < 256 ∧ c.localAddr < 256 ∧ c.serverAddr < 256 := by
  simp only [Config.wellFormed, Config.headerOk, Bool.and_eq_true, decide_eq_true_eq] at h
  obtain ⟨⟨⟨⟨-, ⟨hstart, hlocal⟩, hserver⟩, -⟩, -⟩, -⟩ := h
  exact ⟨hstart, hlocal, hserver⟩

/-- Byte `i` of the payload is the byte of the word that the layout names (R92). -/
theorem payloadByte_eq_extract (c : Config) (w : Word) (i : Nat) :
    payloadByte c w i = w.extractLsb' (8 * c.payloadLayout.getD i 0) 8 := rfl

theorem plainFrame_toList (c : Config) (w : Word) :
    (plainFrame c w).toList =
      [startByteOf c, localAddrOf c, serverAddrOf c, checksum c w,
        payloadByte c w 0, payloadByte c w 1, payloadByte c w 2, payloadByte c w 3] := rfl

/-- Under a valid configuration the header bytes lose nothing of the configured values. -/
theorem plainFrame_header {c : Config} (h : c.wellFormed = true) (w : Word) :
    (plainFrame c w).b0.toNat = c.startByte ∧ (plainFrame c w).b1.toNat = c.localAddr ∧
      (plainFrame c w).b2.toNat = c.serverAddr := by
  obtain ⟨hstart, hlocal, hserver⟩ := wellFormed_header h
  exact ⟨Nat.mod_eq_of_lt hstart, Nat.mod_eq_of_lt hlocal, Nat.mod_eq_of_lt hserver⟩

/-- Settles O20: the bytes of the payload are `payloadByte`, and the header is in range by R206. -/
theorem plainFrameLayout : Obligations.PlainFrameLayout := by
  intro c w h
  exact ⟨payloadByte c w, fun i _ => payloadByte_eq_extract c w i, plainFrame_toList c w, plainFrame_header h w⟩

end Machine

end Sys2Proof
end

section
/-! PROOFS. The EventQueue family (spec/40_event_queue.md): what PUSH, DEPTH and the POP inside REFILL do for each depth of the
queue and each issuer (R110, R111, R113, R120, R130, R131). -/

namespace Sys2Proof.Machine

/-! ### Operations gated by `TRACE_ENABLED`, their faults and their issuers -/

/-- An operation that passes the gate of R15, issued by an agent that may issue it, acts on an enabled block. -/
theorem exec_of_enabled {i : Instr} {op : State → State} {s : State} (hop : effect i = whenEnabled op)
    (ha : s.agent ∈ issuers i) (he : s.cfg.traceEnabled = true) : exec i s = .next (op s) := by
  rw [exec_of_issuer ha, hop, whenEnabled_on he]

/-- On a disabled block it answers 0 and does nothing (R211 item 5). -/
theorem exec_of_disabled {i : Instr} {op : State → State} {s : State} (hop : effect i = whenEnabled op)
    (ha : s.agent ∈ issuers i) (he : s.cfg.traceEnabled = false) : exec i s = .next (s.respond 0) := by
  rw [exec_of_issuer ha, hop, whenEnabled_off he]

/-- An operation that faults before it has set its response leaves what R202 says: the mark, and nothing else but the open
response. -/
theorem faultedFrom_raiseOpen (c : FaultCode) (s : State) : s.faultedFrom c (s.raiseOpen c) :=
  ⟨Option.some_ne_none c, fun _ => rfl, rfl, rfl⟩

theorem mem_issuers_push (a : Agent) (w : Word) : a ∈ issuers (.push w) ↔ a = .producer := List.mem_singleton

/-- Every agent but the UART may issue DEPTH (R215). -/
theorem mem_issuers_depth (a : Agent) : a ∈ issuers .depth ↔ a ≠ .uart := by cases a <;> decide

/-! ### PUSH -/

/-- Opcode 0x01 is PUSH whatever its operand, which is the word (R82, R110). -/
theorem decode_push_opcode (w : Word) : decode (0x01#8 ++ w) = .ok (.push w) := by simp [decode]

theorem pushWord_above_capacity {s : State} (h : s.cfg.capacity < s.depth.toNat) (w : Word) :
    s.pushWord w = s.raiseOpen .invariant :=
  if_pos h

/-- A full queue drops the word (R111). -/
theorem pushWord_at_capacity {s : State} (h : s.depth.toNat = s.cfg.capacity) (w : Word) : s.pushWord w = s.respond 0 := by
  rw [State.pushWord, if_neg h.le.not_gt, if_neg h.ge.not_gt]

theorem pushWord_below_capacity {s : State} (h : s.depth.toNat < s.cfg.capacity) (w : Word) :
    s.pushWord w = (s.enqueue w).respond 1 := by
  rw [State.pushWord, if_neg h.not_gt, if_pos h]

/-- Settles O13: who issues PUSH, whether the block is enabled and how the depth compares with the capacity decide the
outcome; the slots below capacity are those of one write to queue storage. -/
theorem pushAppendsOrDrops : Obligations.PushAppendsOrDrops := by
  intro w s
  have hissuer := mem_issuers_push s.agent w
  refine ⟨decode_push_opcode w, fun ha => exec_of_other (mt hissuer.mp ha),
    fun ha he => exec_of_disabled rfl (hissuer.mpr ha) he, fun ha he => ?enabled⟩
  rw [exec_of_enabled rfl (hissuer.mpr ha) he]
  refine ⟨fun h => ?above, fun h => ?full, fun h => ?room⟩
  case above => exact ⟨_, congrArg _ (pushWord_above_capacity h w), faultedFrom_raiseOpen .invariant s⟩
  case full => exact congrArg _ (pushWord_at_capacity h w)
  case room =>
    exact ⟨Memory.write s.mem (slotOf s.cfg s.wi) w, congrArg _ (pushWord_below_capacity h w),
      Memory.read_write_same s.mem (slotOf s.cfg s.wi) w, fun _ hne => Memory.read_write_other s.mem w hne⟩

/-! ### DEPTH -/

theorem reportDepth_above_capacity {s : State} (h : s.cfg.capacity < s.depth.toNat) :
    s.reportDepth = s.raiseOpen .invariant :=
  if_pos h

theorem reportDepth_within_capacity {s : State} (h : s.depth.toNat ≤ s.cfg.capacity) :
    s.reportDepth = s.respond s.depth :=
  if_neg h.not_gt

/-- Settles O14: on an enabled block the depth is answered or the invariant's fault raised, as it is within the capacity or
above it. -/
theorem depthReportsTheCount : Obligations.DepthReportsTheCount := by
  refine ⟨rfl, fun s ha => ?_⟩
  have hissuer := (mem_issuers_depth s.agent).mpr ha
  refine ⟨exec_of_disabled rfl hissuer, fun he => ?enabled⟩
  rw [exec_of_enabled rfl hissuer he]
  refine ⟨fun h => ?above, fun h => ?within⟩
  case above => exact ⟨_, congrArg _ (reportDepth_above_capacity h), faultedFrom_raiseOpen .invariant s⟩
  case within => exact congrArg _ (reportDepth_within_capacity h)

/-! ### POP -/

/-- The empty test of R120, on the depth as a number. -/
theorem depth_ne_zero {s : State} (h : 0 < s.depth.toNat) : s.depth ≠ 0#32 := by
  intro h0
  simp [h0] at h

theorem popWord_empty {s : State} (h : s.depth.toNat = 0) : s.popWord = .error .popEmpty :=
  if_pos (BitVec.eq_of_toNat_eq h)

theorem popWord_above_capacity {s : State} (h : s.cfg.capacity < s.depth.toNat) (h0 : 0 < s.depth.toNat) :
    s.popWord = .error .invariant := by
  rw [State.popWord, if_neg (depth_ne_zero h0), if_pos h]

/-- With a depth in `1..C` the head slot alone decides: its word leaves the queue, or it is unwritten. -/
theorem popWord_within_capacity {s : State} (h0 : 0 < s.depth.toNat) (h : s.depth.toNat ≤ s.cfg.capacity) :
    (Memory.read s.mem (slotOf s.cfg s.ri) = none → s.popWord = .error .readUnwritten) ∧
    (∀ w, Memory.read s.mem (slotOf s.cfg s.ri) = some w → s.popWord = .ok (w, s.dequeue)) := by
  rw [State.popWord, if_neg (depth_ne_zero h0), if_neg h.not_gt]
  exact ⟨fun hr => by rw [hr], fun w hr => by rw [hr]⟩

/-- The code of POP with operand 0 names POP; it is the port that refuses it (R86). -/
theorem decode_pop_code : decode 0x8100000000#40 = .ok .pop := rfl

theorem step_of_pop_code {s : State} {x : Transaction} {rest : List Transaction} (hp : s.port = x :: rest)
    (hc : s.cfg.wellFormed = true) (hx : x.bits = 0x8100000000#40) :
    step s = .next
      { s with agent := x.issuer, port := rest, refused := true, resp := 0, result := .refused .internal } :=
  step_of_accept_error hp (accept_of_decode_internal hc (hx ▸ decode_pop_code) rfl)

/-- Settles O15: the depth decides which test of R120 answers, and the port never lets the code of POP through. -/
theorem popInsideRefill : Obligations.PopInsideRefill :=
  ⟨fun _ => ⟨popWord_empty, popWord_above_capacity, popWord_within_capacity⟩, decode_pop_code,
    fun _ _ _ => step_of_pop_code⟩

end Sys2Proof.Machine
end

section
/-! PROOFS. The FrameBuilder family (spec/41_frame_builder.md): the bytes of a plaintext frame and their exclusive-or (R144,
R147), and the REFILL inside TXSTEP for each cursor and depth (R140 to R143). -/

namespace Sys2Proof

/-- A block cancels when its byte 3 is the exclusive-or of the other seven. -/
theorem Octets.xorAll_eq_zero {b : Block}
    (h : b.b3 = b.b0 ^^^ b.b1 ^^^ b.b2 ^^^ b.b4 ^^^ b.b5 ^^^ b.b6 ^^^ b.b7) : b.xorAll = 0 := by
  have hgather : b.xorAll = (b.b0 ^^^ b.b1 ^^^ b.b2 ^^^ b.b4 ^^^ b.b5 ^^^ b.b6 ^^^ b.b7) ^^^ b.b3 := by
    unfold Octets.xorAll
    ac_rfl
  rw [hgather, h]
  exact BitVec.xor_self

namespace Machine

/-! ### The bytes of the plaintext frame -/

/-- The frame carries its checksum in byte 3 (R144). -/
theorem plainFrame_checksum (c : Config) (w : Word) :
    (plainFrame c w).b3 =
      (plainFrame c w).b0 ^^^ (plainFrame c w).b1 ^^^ (plainFrame c w).b2 ^^^ (plainFrame c w).b4 ^^^
        (plainFrame c w).b5 ^^^ (plainFrame c w).b6 ^^^ (plainFrame c w).b7 := rfl

/-- The payload is the bytes of the word in the order of the layout (R92). -/
theorem plainFrame_payload (c : Config) (w : Word) :
    [(plainFrame c w).b4, (plainFrame c w).b5, (plainFrame c w).b6, (plainFrame c w).b7] =
      [0, 1, 2, 3].map (payloadByte c w) := rfl

/-- Settles O22: byte 3 is the exclusive-or of the other seven, so all eight cancel. -/
theorem plainFrameXorsToZero : Obligations.PlainFrameXorsToZero :=
  fun c w => Octets.xorAll_eq_zero (plainFrame_checksum c w)

/-! ### REFILL -/

theorem remaining_eq_zero_iff (cur : Fin 9) : remaining cur = 0 ↔ cur.val = 8 := by
  unfold remaining
  omega

/-- R141: bytes are left. -/
theorem refillFrame_undrained {s : State} (h : s.cur.val < 8) : s.refillFrame = .ok (8 - s.cur.val, s) :=
  if_pos (mt (remaining_eq_zero_iff s.cur).mp h.ne)

/-- R142: the frame is drained and the queue is empty. -/
theorem refillFrame_empty {s : State} (h : s.cur.val = 8) (h0 : s.depth.toNat = 0) : s.refillFrame = .ok (0, s) := by
  rw [State.refillFrame, if_neg (not_not.mpr ((remaining_eq_zero_iff s.cur).mpr h)), if_pos (BitVec.eq_of_toNat_eq h0)]

/-- R143: the frame is drained and a word waits, so POP decides. -/
theorem refillFrame_waiting {s : State} (h : s.cur.val = 8) (h0 : 0 < s.depth.toNat) :
    (∀ c, s.popWord = .error c → s.refillFrame = .error c) ∧
    (∀ w t, s.popWord = .ok (w, t) → s.refillFrame = .ok (8, t.loadFrame w)) := by
  rw [State.refillFrame, if_neg (not_not.mpr ((remaining_eq_zero_iff s.cur).mpr h)), if_neg (depth_ne_zero h0)]
  exact ⟨fun c hp => by rw [hp], fun w t hp => by rw [hp]⟩

/-- The word at the head of a queue within its capacity becomes the next frame. -/
theorem refillFrame_builds {s : State} {w : Word} (h : s.cur.val = 8) (h0 : 0 < s.depth.toNat)
    (hle : s.depth.toNat ≤ s.cfg.capacity) (hr : Memory.read s.mem (slotOf s.cfg s.ri) = some w) :
    s.refillFrame = .ok (8, s.dequeue.loadFrame w) := by
  obtain ⟨-, hpop⟩ := popWord_within_capacity h0 hle
  obtain ⟨-, hload⟩ := refillFrame_waiting h h0
  exact hload w s.dequeue (hpop w hr)

/-- The code of REFILL with operand 0 names REFILL; it is the port that refuses it (R86). -/
theorem decode_refill_code : decode 0x8000000000#40 = .ok .refill := rfl

/-- Settles O24: the cursor and the depth decide which of R141, R142 and R143 answers; the frame left in the buffer is
`wireFrame` of the popped word; and the port never lets the code of REFILL through. -/
theorem refillInsideTxstep : Obligations.RefillInsideTxstep := by
  refine ⟨fun s => ⟨refillFrame_undrained, refillFrame_empty, fun h h0 => ⟨?fault, fun hle w hr => ?built⟩⟩,
    fun c w => ⟨rfl, plainFrame_checksum c w, plainFrame_payload c w⟩, decode_refill_code, fun s x rest hp hc hx => ?port⟩
  case fault =>
    obtain ⟨hfault, -⟩ := refillFrame_waiting h h0
    exact hfault
  case built => exact ⟨wireFrame s.cfg w, rfl, refillFrame_builds h h0 hle hr⟩
  case port => exact step_of_accept_error hp (accept_of_decode_internal hc (hx ▸ decode_refill_code) rfl)

end Machine

end Sys2Proof
end

section
/-! PROOFS. The TransmitCursor family and the UART's event (spec/42_transmit_cursor.md): TXSTEP on the paths that a run reaches
(R171 to R175), STATUS (R179, R180) and TXDONE (R181). -/

namespace Sys2Proof.Machine

/-! ### Who issues these operations (R215) -/

theorem mem_issuers_txstep (a : Agent) : a ∈ issuers .txstep ↔ a = .consumer := List.mem_singleton

theorem mem_issuers_txdone (a : Agent) : a ∈ issuers .txdone ↔ a = .uart := List.mem_singleton

/-- Every agent but the UART may issue STATUS. -/
theorem mem_issuers_status (a : Agent) : a ∈ issuers .status ↔ a ≠ .uart := by cases a <;> decide

/-! ### TXSTEP -/

/-- A busy register makes the transmit step a no-op (R173). -/
theorem transmitStep_busy {s : State} (h : s.regEmpty = false) : s.transmitStep = s.respond 0 := by
  rw [State.transmitStep, if_neg (ne_true_of_eq_false h)]

/-- With the register empty, the count that REFILL answers chooses between the Sending and the Idle path (R171). -/
theorem transmitStep_of_refillFrame {s t : State} {n : Nat} (h : s.regEmpty = true)
    (hr : s.refillFrame = .ok (n, t)) : s.transmitStep = if 0 < n then t.sendByte else t.goIdle := by
  rw [State.transmitStep, if_pos h, hr]

/-- Bytes of the current frame are left, so the next one is sent (R174). -/
theorem transmitStep_undrained {s : State} (h : s.regEmpty = true) (hc : s.cur.val < 8) :
    s.transmitStep = s.sendByte :=
  (transmitStep_of_refillFrame h (refillFrame_undrained hc)).trans (if_pos (Nat.sub_pos_of_lt hc))

/-- The frame is drained and no word waits, so the block goes idle (R175). -/
theorem transmitStep_drained {s : State} (h : s.regEmpty = true) (hc : s.cur.val = 8) (h0 : s.depth.toNat = 0) :
    s.transmitStep = s.goIdle :=
  transmitStep_of_refillFrame h (refillFrame_empty hc h0)

/-- The frame is drained and a word waits, so its frame is built and the first byte of that sent (R143, R174). -/
theorem transmitStep_builds {s : State} {w : Word} (h : s.regEmpty = true) (hc : s.cur.val = 8)
    (h0 : 0 < s.depth.toNat) (hle : s.depth.toNat ≤ s.cfg.capacity)
    (hr : Memory.read s.mem (slotOf s.cfg s.ri) = some w) : s.transmitStep = (s.dequeue.loadFrame w).sendByte :=
  transmitStep_of_refillFrame h (refillFrame_builds hc h0 hle hr)

/-- Inside the frame the cursor moves on by one place, short of its ceiling (R26). -/
theorem advance_eq {c : Fin 9} (h : c.val < 8) : advance c = ⟨c.val + 1, by omega⟩ := Fin.ext (advance_val h)

/-- The Sending path on the written byte under a cursor inside the frame (R174, R177). -/
theorem sendByte_of_get {s : State} {b : Byte} (h : s.cur.val < 8) (hb : s.buf.get ⟨s.cur.val, h⟩ = some b) :
    s.sendByte =
      { s with
        cur := ⟨s.cur.val + 1, by omega⟩
        wire := s.wire ++ [b]
        log := s.log ++ [.tx b, .ieEn]
        regEmpty := false
        txState := true
        ie := true
        resp := 0
        result := .ok } := by
  rw [sendByte_eq ((bufByte_eq_get s.buf h).trans hb), advance_eq h]

/-- Settles O26: the issuer, the gate, the register, the cursor and the depth choose the path, and what each path leaves is
said by `sendByte_of_get`, `goIdle_eq` and `loadFrame_sendByte_eq`. -/
theorem txstepSendsOneByteOrGoesIdle : Obligations.TxstepSendsOneByteOrGoesIdle := by
  refine ⟨rfl, fun s => ?_⟩
  have hissuer := mem_issuers_txstep s.agent
  refine ⟨fun ha => exec_of_other (mt hissuer.mp ha), fun ha he => exec_of_disabled rfl (hissuer.mpr ha) he,
    fun ha he hbusy => ?busy, fun ha he hempty => ?ready⟩
  case busy =>
    rw [exec_of_enabled rfl (hissuer.mpr ha) he]
    exact congrArg _ (transmitStep_busy hbusy)
  case ready =>
    rw [exec_of_enabled rfl (hissuer.mpr ha) he]
    refine ⟨fun hc b hb => ?sends, fun hc h0 => ?idles, fun w hc h0 hle hr => ?builds⟩
    case sends => rw [transmitStep_undrained hempty hc, sendByte_of_get hc hb]
    case idles => rw [transmitStep_drained hempty hc h0, goIdle_eq]
    case builds =>
      rw [transmitStep_builds hempty hc h0 hle hr, loadFrame_sendByte_eq]
      rfl

/-! ### STATUS -/

/-- In Sending the answer is 1 (R179). -/
theorem reportStatus_sending {s : State} (h : s.txState = true) : s.reportStatus = s.respond 1 := by
  rw [State.reportStatus, h]
  rfl

/-- In Idle the answer is 0 (R179). -/
theorem reportStatus_idle {s : State} (h : s.txState = false) : s.reportStatus = s.respond 0 := by
  rw [State.reportStatus, h]
  rfl

/-- Settles O28: on an enabled block the flag is answered, on a disabled one the gate answers 0. -/
theorem statusReportsTheFlag : Obligations.StatusReportsTheFlag := by
  refine ⟨rfl, fun s ha => ?_⟩
  have hissuer := (mem_issuers_status s.agent).mpr ha
  refine ⟨exec_of_disabled rfl hissuer, fun he hflag => ?sending, fun he hflag => ?idle⟩
  case sending =>
    rw [exec_of_enabled rfl hissuer he]
    exact congrArg _ (reportStatus_sending hflag)
  case idle =>
    rw [exec_of_enabled rfl hissuer he]
    exact congrArg _ (reportStatus_idle hflag)

/-! ### TXDONE -/

/-- TXDONE does not pass the gate of R15, so whether the block is enabled does not matter. -/
theorem exec_txdone_of_uart {s : State} (ha : s.agent = .uart) :
    exec .txdone s = .next { s with regEmpty := true, resp := 0, result := .ok } :=
  exec_of_issuer ((mem_issuers_txdone s.agent).mpr ha)

/-- Settles O29: the UART's TXDONE is `State.registerDone`, and no other agent may issue it. -/
theorem txdoneEmptiesTheRegister : Obligations.TxdoneEmptiesTheRegister :=
  ⟨rfl, fun s => ⟨fun ha _ => exec_txdone_of_uart ha, fun ha => exec_of_other (mt (mem_issuers_txdone s.agent).mp ha)⟩⟩

end Sys2Proof.Machine
end

section
/-! PROOFS. Exceptions (spec/60_exceptions.md): that each operation of the port is served for exactly the agents of R215, and
which configurations R206 lets any operation run under. -/

namespace Sys2Proof

/-! ### Valid configurations, item by item of R206 -/

theorem Config.capacityOk_iff (c : Config) : c.capacityOk = true ↔ ∃ k ≤ 31, c.capacity = 2 ^ k := by
  simp [Config.capacityOk, Nat.lt_succ_iff]

theorem Config.headerOk_iff (c : Config) :
    c.headerOk = true ↔ c.startByte ≤ 255 ∧ c.localAddr ≤ 255 ∧ c.serverAddr ≤ 255 := by
  simp [Config.headerOk, Nat.lt_succ_iff, and_assoc]

theorem Config.layoutOk_iff (c : Config) : c.layoutOk = true ↔ c.payloadLayout.Perm [0, 1, 2, 3] := decide_eq_true_iff

theorem Config.keyOk_iff (c : Config) : c.keyOk = true ↔ c.key.length = 8 := beq_iff_eq

theorem Config.wellFormed_iff (c : Config) :
    c.wellFormed = true ↔
      c.capacityOk = true ∧ c.headerOk = true ∧ c.layoutOk = true ∧ c.keyOk = true ∧ c.cipherOk = true := by
  simp only [Config.wellFormed, Bool.and_eq_true, and_assoc]

namespace Machine

/-- Under an invalid configuration the port accepts nothing, whatever the transaction (R206). -/
theorem accept_of_invalid_config {c : Config} (h : c.wellFormed = false) (x : Transaction) :
    accept c x = .error .config :=
  if_neg (ne_true_of_eq_false h)

/-- Settles O4: each of the five checks decides its item of R206, the last by `Config.cipherOk_iff`; and `accept` answers
`RF_CONFIG` where one of them fails. -/
theorem validConfigurations : Obligations.ValidConfigurations := by
  intro c
  refine ⟨?items, fun s x rest i hcfg hport hinvalid _ _ _ => ?refusal⟩
  case items =>
    rw [c.wellFormed_iff, c.capacityOk_iff, c.headerOk_iff, c.layoutOk_iff, c.keyOk_iff, c.cipherOk_iff]
    rfl
  case refusal =>
    subst hcfg
    exact step_of_accept_error hport (accept_of_invalid_config hinvalid x)

/-! ### Who may issue what (R215) -/

/-- An operation that was run ended well or in a fault, not in a refusal. -/
theorem result_ne_refused_of_marksFollow {s t : State} (h : s.marksFollow t) (r : RefusalReason) :
    t.result ≠ .refused r := by
  obtain ⟨-, ⟨hok, -⟩ | ⟨c, hfault, -⟩⟩ := h
  · simp [hok]
  · simp [hfault]

/-- An agent that may issue an operation has it served: no refusal is recorded, neither in the mark nor in the result. -/
theorem exec_not_refused_of_issuer {i : Instr} {s : State} (h : s.agent ∈ issuers i) :
    ∃ t, exec i s = .next t ∧ t.refused = s.refused ∧ ∀ r, t.result ≠ .refused r :=
  have hmarks := effect_marksFollow i s
  ⟨effect i s, exec_of_issuer h, refused_of_marksFollow hmarks, result_ne_refused_of_marksFollow hmarks⟩

/-- Settles O7: for an operation of the port the model's table `issuers` is R215's, and membership in it decides between
service and `RF_AGENT`. -/
theorem agentsIssueOnlyTheirOperations : Obligations.AgentsIssueOnlyTheirOperations := by
  intro i s hport
  refine ⟨issuers i, ?table, exec_not_refused_of_issuer, exec_of_other⟩
  case table =>
    cases i with
    | refill | pop => exact absurd rfl hport
    | push | depth | status | txstep | txdone | ieon | reset => rfl

end Machine

end Sys2Proof
end

section
/-! PROOFS. RESET (spec/70_reset_and_hazards.md): the context it leaves and what it leaves alone (R230, R231), and the idle
TXSTEP that serves a register-empty interrupt still pending after it (R231). -/

namespace Sys2Proof.Machine

/-! ### The initial context (R230) -/

theorem mem_issuers_reset (a : Agent) : a ∈ issuers .reset ↔ a = .host := List.mem_singleton

/-- Both counters start at 0, so the queue is empty. -/
@[simp] theorem initContext_depth (s : State) : s.initContext.depth = 0 := BitVec.sub_self 0

/-- The queue storage is emptied: every slot is unwritten. -/
theorem initContext_read (s : State) (a : Nat) : Memory.read s.initContext.mem a = none := Memory.read_nil a

/-- RESET does not pass the gate of R15, so it initialises the context of a disabled block too. -/
theorem exec_reset_of_host {s : State} (ha : s.agent = .host) : exec .reset s = .next (s.initContext.respond 0) :=
  exec_of_issuer ((mem_issuers_reset s.agent).mpr ha)

/-! ### The TXSTEP after it (R231) -/

/-- The consumer's TXSTEP takes the Idle path where the register and the queue are empty and the frame is drained (R175). -/
theorem exec_txstep_drained {s : State} (ha : s.agent = .consumer) (he : s.cfg.traceEnabled = true)
    (hempty : s.regEmpty = true) (hc : s.cur.val = 8) (h0 : s.depth.toNat = 0) : exec .txstep s = .next s.goIdle := by
  rw [exec_of_enabled rfl ((mem_issuers_txstep s.agent).mpr ha) he, transmitStep_drained hempty hc h0]

/-- RESET leaves the cursor at 8 and the queue empty, so the TXSTEP that finds the register empty masks the interrupt. The
flag, the response and the result are already those of the Idle path. -/
theorem exec_txstep_after_reset {s : State} (he : s.cfg.traceEnabled = true) (hempty : s.regEmpty = true) :
    exec .txstep { s.initContext.respond 0 with agent := .consumer } =
      .next { s.initContext.respond 0 with agent := .consumer, log := s.log ++ [.ieDis], ie := false } := by
  have hdepth : s.initContext.depth.toNat = 0 := congrArg BitVec.toNat (initContext_depth s)
  calc
    exec .txstep { s.initContext.respond 0 with agent := .consumer }
      = .next (State.goIdle { s.initContext.respond 0 with agent := .consumer }) :=
        exec_txstep_drained rfl he hempty rfl hdepth
    _ = _ := congrArg _ (goIdle_eq _)

/-- Settles O35: the host's RESET is `State.initContext` answering 0, whatever the configuration; any other agent is refused;
and the TXSTEP after it is `exec_txstep_after_reset`. -/
theorem resetInitialisesTheContext : Obligations.ResetInitialisesTheContext := by
  refine ⟨rfl, fun s => ⟨fun ha => exec_of_other (mt (mem_issuers_reset s.agent).mp ha), fun ha => ?host⟩⟩
  exact ⟨s.initContext.respond 0, exec_reset_of_host ha, rfl, initContext_read s, exec_txstep_after_reset⟩

end Sys2Proof.Machine
end

section
/-! PROOFS. The command encoding, both ways (spec/30_encoding.md sections 1 to 3): the decoder gives back every encoded
operation, and nothing but the encoding of an operation decodes to it. -/

namespace Sys2Proof

theorem decodePlain_eq_ok_iff {i j : Instr} {opnd : Word} : decodePlain i opnd = .ok j ↔ opnd = 0#32 ∧ i = j := by
  unfold decodePlain
  split <;> simp [*]

theorem decodeInternal_eq_ok_iff {i j : Instr} {opnd : Word} :
    decodeInternal i opnd = .ok j ↔ opnd = 0#32 ∧ i = j := by
  unfold decodeInternal
  split <;> simp [*]

/-- The decoder names an operation exactly where the two fields are that operation's opcode and operand (R82, R88). -/
theorem decode_eq_ok_iff (t : BitVec 40) (i : Instr) :
    decode t = .ok i ↔ opcodeField t = i.opcode ∧ operandField t = i.operand := by
  constructor
  · intro h
    unfold decode at h
    split at h
    case h_1 hop =>
      obtain rfl : Instr.push (operandField t) = i := Except.ok.inj h
      exact ⟨hop, rfl⟩
    case h_10 => simp at h
    case h_8 hop | h_9 hop =>
      obtain ⟨hzero, rfl⟩ := decodeInternal_eq_ok_iff.mp h
      exact ⟨hop, hzero⟩
    all_goals
      next hop =>
        obtain ⟨hzero, rfl⟩ := decodePlain_eq_ok_iff.mp h
        exact ⟨hop, hzero⟩
  · rintro ⟨hop, hopnd⟩
    cases i with
    | push w => simp_all [decode, Instr.opcode, Instr.operand]
    | refill | pop => simp_all [decode, Instr.opcode, Instr.operand, decodeInternal_eq_ok_iff]
    | depth | status | txstep | txdone | ieon | reset =>
      simp_all [decode, Instr.opcode, Instr.operand, decodePlain_eq_ok_iff]

/-- Settles O1: the fields of an encoding are the operation's opcode and operand. -/
theorem decodeOfEncode : Obligations.DecodeOfEncode := fun i =>
  (decode_eq_ok_iff (encode i) i).mpr (Laws.encode_fields i)

/-- Settles O2: the fields that decode to an operation are those of its encoding, and a transaction is its fields. -/
theorem encodeOfDecode : Obligations.EncodeOfDecode := by
  intro t i h
  obtain ⟨hop, hopnd⟩ := (decode_eq_ok_iff t i).mp h
  calc
    encode i = opcodeField t ++ operandField t := by rw [hop, hopnd, encode]
    _ = t := fields_append t

/-- Settles O3: each word is the encoding of its operation, or is in the range of R84, R85 or R86 that its refusal names. -/
theorem specWordsDecode : Obligations.SpecWordsDecode := by
  refine ⟨decodeOfEncode (.push 0x00010002), decodeOfEncode .depth, decodeOfEncode .txstep, decodeOfEncode .reset,
    decodeOfEncode .refill, decode_of_stray_operand (by decide) (by decide), rfl, decode_of_reserved_opcode (by decide)⟩

end Sys2Proof
end

section
/-! PROOFS. The command port and the agents (spec/60_exceptions.md, spec/20_memory.md section 7): what a step runs or
refuses, that nothing but an empty port stops the machine, and who has which operation served (R83, R202, R211, R215). -/

namespace Sys2Proof.Machine

/-! ### What the port lets through -/

theorem accept_of_decode_ok {c : Config} {x : Transaction} {i : Instr} (hc : c.wellFormed = true)
    (hd : decode x.bits = .ok i) (hi : i.format ≠ .internal) : accept c x = .ok i := by
  simp [accept, hc, hd, hi]

theorem step_of_accept_ok {s : State} {x : Transaction} {rest : List Transaction} {i : Instr}
    (hp : s.port = x :: rest) (ha : accept s.cfg x = .ok i) : step s = exec i (s.take x rest) := by
  simp [step, hp, ha]

/-- Settles O5: the configuration is the first thing that `accept` checks. -/
theorem invalidConfigurationRefusesEverything : Obligations.InvalidConfigurationRefusesEverything :=
  fun _ x _ hp hc => step_of_accept_error hp (accept_of_invalid_config hc x)

/-- Settles O10: a valid configuration and an external operation are all that `accept` asks for. -/
theorem stepRunsTheDecodedInstruction : Obligations.StepRunsTheDecodedInstruction :=
  fun _ _ _ _ hp hc hd hi => step_of_accept_ok hp (accept_of_decode_ok hc hd hi)

/-! ### Every operation has a next state -/

/-- Whatever the agent, an operation is served or refused, and leaves the configuration, the agent and the port alone. -/
theorem exec_eq_next (i : Instr) (s : State) :
    ∃ t, exec i s = .next t ∧ t.cfg = s.cfg ∧ t.agent = s.agent ∧ t.port = s.port := by
  by_cases h : s.agent ∈ issuers i
  · exact ⟨effect i s, exec_of_issuer h, effect_fixed i s⟩
  · exact ⟨s.refuse .agent, exec_of_other h, rfl, rfl, rfl⟩

/-- With a transaction pending there is a next state, in which that transaction is gone. -/
theorem step_eq_next {s : State} {x : Transaction} {rest : List Transaction} (hp : s.port = x :: rest) :
    ∃ t, step s = .next t ∧ t.port = rest ∧ t.agent = x.issuer ∧ t.cfg = s.cfg := by
  cases ha : accept s.cfg x with
  | error r => exact ⟨_, step_of_accept_error hp ha, rfl, rfl, rfl⟩
  | ok i =>
    obtain ⟨t, hexec, hcfg, hagent, hport⟩ := exec_eq_next i (s.take x rest)
    exact ⟨t, (step_of_accept_ok hp ha).trans hexec, hport, hagent, hcfg⟩

theorem step_of_empty_port {s : State} (hp : s.port = []) : step s = .fault .stuck := by simp [step, hp]

/-- Settles O11: `exec` and a step with something pending always have a next state, so only the empty port is left. -/
theorem onlyAnEmptyPortStops : Obligations.OnlyAnEmptyPortStops :=
  ⟨fun i s => (exec_eq_next i s).imp fun _ h => h.1, fun _ => step_of_empty_port, fun _ _ _ => step_eq_next⟩

/-- Settles O12: the step has a next state, and by `step_cases` that is a refusal where nothing is served. -/
theorem refusedTransactionsChangeNothing : Obligations.RefusedTransactionsChangeNothing := by
  intro s x rest hp hnone
  obtain ⟨t, hstep, -⟩ := step_eq_next hp
  obtain ⟨y, rest', hp', ⟨r, -, ht⟩ | ⟨i, hsome, -⟩⟩ := step_cases hstep
  · obtain ⟨rfl, rfl⟩ := List.cons.inj (hp.symm.trans hp')
    exact ⟨r, hstep.trans (congrArg _ ht)⟩
  · simp [hnone] at hsome

/-! ### Who has what served -/

/-- What a step serves is an external operation that its issuer may issue. -/
theorem served_eq_some {s : State} {x : Transaction} {rest : List Transaction} {i : Instr} (hp : s.port = x :: rest)
    (h : s.served = some i) : accept s.cfg x = .ok i ∧ x.issuer ∈ issuers i := by
  simp only [State.served, hp] at h
  cases ha : accept s.cfg x with
  | error r => simp [ha] at h
  | ok j =>
    by_cases hm : x.issuer ∈ issuers j
    · obtain rfl : j = i := by simpa [ha, hm] using h
      exact ⟨rfl, hm⟩
    · simp [ha, hm] at h

theorem mem_issuers_ieon (a : Agent) : a ∈ issuers .ieon ↔ a = .producer ∨ a = .host := by cases a <;> decide

/-- Settles O43: the served operation is in its issuer's row of R215, and REFILL and POP are internal. -/
theorem servedOperationsBelongToTheirAgents : Obligations.ServedOperationsBelongToTheirAgents := by
  intro s x rest i hp hs
  obtain ⟨ha, hm⟩ := served_eq_some hp hs
  obtain ⟨-, -, hexternal⟩ := accept_eq_ok ha
  have hissuer : ∀ {j}, i = j → x.issuer ∈ issuers j := fun hi => hi ▸ hm
  exact ⟨fun w hi => (mem_issuers_push x.issuer w).mp (hissuer hi), fun hi => (mem_issuers_txstep x.issuer).mp (hissuer hi),
    fun hi => (mem_issuers_txdone x.issuer).mp (hissuer hi), fun hi => (mem_issuers_reset x.issuer).mp (hissuer hi),
    fun hi => (mem_issuers_ieon x.issuer).mp (hissuer hi), fun hi => hexternal (hi ▸ rfl), fun hi => hexternal (hi ▸ rfl)⟩

/-- REFILL and POP, run alone, are in the consumer's row of the model's table. -/
theorem mem_issuers_internal {i : Instr} (hi : i = .refill ∨ i = .pop) (a : Agent) : a ∈ issuers i ↔ a = .consumer := by
  rcases hi with rfl | rfl <;> exact List.mem_singleton

/-- Settles O8: the consumer is the one issuer of REFILL and POP. -/
theorem internalOperationsAreTheConsumers : Obligations.InternalOperationsAreTheConsumers := by
  intro i s hi
  have hissuer := mem_issuers_internal hi s.agent
  exact ⟨fun ha => exec_not_refused_of_issuer (hissuer.mpr ha), fun ha => exec_of_other (mt hissuer.mp ha)⟩

/-- IEON does not pass the gate of R15 either, so whether the block is enabled does not matter. -/
theorem exec_ieon_of_issuer {s : State} (ha : s.agent = .producer ∨ s.agent = .host) :
    exec .ieon s = .next { s with ie := true, resp := 0, result := .ok } :=
  exec_of_issuer ((mem_issuers_ieon s.agent).mpr ha)

/-- Settles O9: the model's table `issuers` is that of R215. -/
theorem issuersWhereTheTablesDiffer : Obligations.IssuersWhereTheTablesDiffer := by
  refine fun s => ⟨fun ha => ⟨exec_of_other ?depth, exec_of_other ?status⟩, fun ha => exec_ieon_of_issuer (.inl ha)⟩
  case depth => exact fun hm => (mem_issuers_depth s.agent).mp hm ha
  case status => exact fun hm => (mem_issuers_status s.agent).mp hm ha

/-- Settles O30: the host is an issuer of IEON, the consumer and the UART are not. -/
theorem ieonEnablesTheInterrupt : Obligations.IeonEnablesTheInterrupt := by
  refine ⟨rfl, fun s => ⟨fun ha _ => exec_ieon_of_issuer (.inr ha), fun ha => exec_of_other fun hm => ?_⟩⟩
  rcases (mem_issuers_ieon s.agent).mp hm with h | h <;> simp [h] at ha

/-- Settles O31: neither TXDONE nor IEON asks whether the block is enabled. -/
theorem collaboratorEventsInADisabledBlock : Obligations.CollaboratorEventsInADisabledBlock :=
  fun _ _ => ⟨exec_txdone_of_uart, fun ha => exec_ieon_of_issuer (.inr ha)⟩

/-! ### The code that a fault leaves -/

/-- An operation that was run and ended in a fault recorded that fault's code. -/
theorem fault_of_marksFollow {s t : State} {c : FaultCode} (h : s.marksFollow t) (hr : t.result = .fault c) :
    t.fault = some c := by
  obtain ⟨-, ⟨hok, -⟩ | ⟨c', hfault, hmark⟩⟩ := h
  · simp [hok] at hr
  · obtain rfl : c' = c := by simpa [hfault] using hr
    exact hmark

/-- Settles O42: what ends in a fault was run, not refused, and `effect_marksFollow` says what mark it leaves. -/
theorem laterFaultReplacesAnEarlierOne : Obligations.LaterFaultReplacesAnEarlierOne := by
  refine ⟨fun i s t c h hr => ?exec, fun s t c h hr => ?step⟩
  case exec =>
    rw [exec_eq_guardIssuer] at h
    obtain ⟨-, rfl⟩ | ⟨-, rfl⟩ := guardIssuer_cases h
    · exact fault_of_marksFollow (effect_marksFollow i s) hr
    · simp at hr
  case step =>
    obtain ⟨x, rest, -, ⟨r, -, rfl⟩ | ⟨i, -, -, -, rfl⟩⟩ := step_cases h
    · simp at hr
    · exact fault_of_marksFollow (effect_marksFollow i (s.take x rest)) hr

end Sys2Proof.Machine
end

section
/-! PROOFS. The queue of waiting words (spec/40_event_queue.md, R21, R23, R133): the list `State.queued` gains its last
word by an accepted PUSH and loses its first by POP, whatever the counters; and POP run alone (R120). -/

namespace Sys2Proof.Machine

/-! ### The queue's part of the invariant -/

/-- What the invariant says of the queue: it speaks of the configuration, the storage and the two counters alone. -/
structure State.QueueInv (s : State) : Prop where
  config : s.cfg.wellFormed = true
  memory : s.mem.wf
  slots : ∀ p ∈ s.mem, p.1 < s.cfg.capacity
  depth : s.depth.toNat ≤ s.cfg.capacity
  written : ∀ k < s.depth.toNat, (Memory.read s.mem (s.waitingSlot k)).isSome = true

theorem State.Inv.queueInv {s : State} (h : s.Inv) : s.QueueInv := ⟨h.config, h.memory, h.slots, h.depth, h.written⟩

/-! ### One word more, one word less -/

theorem enqueue_depth {s : State} (hc : s.cfg.wellFormed = true) (h : s.depth.toNat < s.cfg.capacity) (w : Word) :
    (s.enqueue w).depth.toNat = s.depth.toNat + 1 := by
  have hle := capacity_le hc
  have hsucc : (s.enqueue w).depth = s.depth + 1 := by
    simp only [State.depth, State.enqueue_wi, State.enqueue_ri]
    bv_omega
  rw [hsucc, BitVec.toNat_add]
  exact Nat.mod_eq_of_lt (by simp; omega)

theorem dequeue_depth {s : State} (h : 0 < s.depth.toNat) : s.dequeue.depth.toNat + 1 = s.depth.toNat := by
  simp only [State.depth, State.dequeue_wi, State.dequeue_ri] at h ⊢
  bv_omega

@[simp] theorem enqueue_waitingSlot (w : Word) (s : State) (k : Nat) : (s.enqueue w).waitingSlot k = s.waitingSlot k := rfl

/-- The queue without its head starts one slot on, across the wrap too. -/
theorem dequeue_waitingSlot (s : State) (k : Nat) : s.dequeue.waitingSlot k = s.waitingSlot (k + 1) := by
  have hnext : s.ri + 1 + BitVec.ofNat 32 k = s.ri + BitVec.ofNat 32 (k + 1) := by
    rw [BitVec.ofNat_add, BitVec.add_assoc, BitVec.add_comm 1]
    rfl
  simp only [State.waitingSlot, State.dequeue_cfg, State.dequeue_ri, hnext]

/-- After a write for PUSH a slot holds the new word or what it held. -/
theorem enqueue_read (w : Word) (s : State) (a : Nat) :
    Memory.read (s.enqueue w).mem a = if a = slotOf s.cfg s.wi then some w else Memory.read s.mem a :=
  Memory.read_write s.mem (slotOf s.cfg s.wi) a w

/-- Below capacity the new word overwrites no waiting one. -/
theorem enqueue_read_waiting {s : State} (hc : s.cfg.wellFormed = true) (h : s.depth.toNat < s.cfg.capacity) (w : Word)
    {k : Nat} (hk : k < s.depth.toNat) :
    Memory.read (s.enqueue w).mem (s.waitingSlot k) = Memory.read s.mem (s.waitingSlot k) := by
  refine (enqueue_read w s _).trans (if_neg fun heq => ?_)
  rw [slotOf_wi] at heq
  exact hk.ne (waitingSlot_inj hc (hk.trans h) h heq)

theorem State.QueueInv.enqueue {s : State} (h : s.QueueInv) (hroom : s.depth.toNat < s.cfg.capacity) (w : Word) :
    (s.enqueue w).QueueInv where
  config := h.config
  memory := Memory.write_wf h.memory _ _
  slots := Memory.write_slots h.slots (slotOf_lt h.config s.wi) w
  depth := by
    rw [enqueue_depth h.config hroom]
    exact hroom
  written := by
    intro k hk
    rw [enqueue_depth h.config hroom] at hk
    rw [enqueue_waitingSlot, enqueue_read, slotOf_wi]
    split
    · rfl
    · next hne => exact h.written k (lt_of_le_of_ne (Nat.le_of_lt_succ hk) fun heq => hne (congrArg _ heq))

theorem State.QueueInv.dequeue {s : State} (h : s.QueueInv) (h0 : 0 < s.depth.toNat) : s.dequeue.QueueInv where
  config := h.config
  memory := h.memory
  slots := h.slots
  depth := by
    have hle : s.depth.toNat ≤ s.dequeue.cfg.capacity := h.depth
    have := dequeue_depth h0
    omega
  written := by
    intro k hk
    have := dequeue_depth h0
    rw [dequeue_waitingSlot]
    exact h.written (k + 1) (by omega)

/-- The head slot of a queue that is not empty holds a word. -/
theorem State.QueueInv.head {s : State} (h : s.QueueInv) (h0 : 0 < s.depth.toNat) :
    ∃ w, Memory.read s.mem (slotOf s.cfg s.ri) = some w := by
  rw [slotOf_ri]
  exact Option.isSome_iff_exists.mp (h.written 0 h0)

/-! ### The list of waiting words -/

theorem queued_of_empty {s : State} (h : s.depth.toNat = 0) : s.queued = [] := by simp [State.queued, h]

/-- Every waiting slot gives a word, so none is skipped. -/
theorem State.QueueInv.queued_length {s : State} (h : s.QueueInv) : s.queued.length = s.depth.toNat := by
  rw [State.queued, List.length_filterMap_eq_countP, List.countP_eq_length.mpr, List.length_range]
  exact fun k hk => h.written k (List.mem_range.mp hk)

/-- PUSH below capacity puts its word last. -/
theorem queued_enqueue {s : State} (hc : s.cfg.wellFormed = true) (h : s.depth.toNat < s.cfg.capacity) (w : Word) :
    (s.enqueue w).queued = s.queued ++ [w] := by
  have hold : ∀ k ∈ List.range s.depth.toNat,
      Memory.read (s.enqueue w).mem ((s.enqueue w).waitingSlot k) = Memory.read s.mem (s.waitingSlot k) :=
    fun k hk => enqueue_read_waiting hc h w (List.mem_range.mp hk)
  have hnew : Memory.read (s.enqueue w).mem ((s.enqueue w).waitingSlot s.depth.toNat) = some w :=
    (enqueue_read w s _).trans (if_pos (slotOf_wi s).symm)
  rw [State.queued, enqueue_depth hc h, List.range_succ, List.filterMap_append, List.filterMap_congr hold]
  simp only [List.filterMap_cons, List.filterMap_nil, hnew]
  rfl

/-- The head word stands before what POP leaves. -/
theorem queued_eq_cons {s : State} {w : Word} (h : 0 < s.depth.toNat)
    (hr : Memory.read s.mem (slotOf s.cfg s.ri) = some w) : s.queued = w :: s.dequeue.queued := by
  have hrest : (fun k => Memory.read s.dequeue.mem (s.dequeue.waitingSlot k)) =
      (fun k => Memory.read s.mem (s.waitingSlot k)) ∘ Nat.succ :=
    funext fun k => congrArg (Memory.read s.mem) (dequeue_waitingSlot s k)
  rw [slotOf_ri] at hr
  rw [State.queued, State.queued, hrest, ← dequeue_depth h, List.range_succ_eq_map, ← List.filterMap_map]
  simp only [List.filterMap_cons, hr]

/-- Settles O19: the written slots that the invariant asks for are the words of the list. -/
theorem queueLengthIsTheDepth : Obligations.QueueLengthIsTheDepth := fun _ h => h.queueInv.queued_length

/-- The producer's PUSH on an enabled block with room is accepted. -/
theorem exec_push_accepted {s : State} (ha : s.agent = .producer) (he : s.cfg.traceEnabled = true)
    (hroom : s.depth.toNat < s.cfg.capacity) (w : Word) : exec (.push w) s = .next ((s.enqueue w).respond 1) := by
  rw [exec_of_enabled rfl ((mem_issuers_push s.agent w).mpr ha) he, pushWord_below_capacity hroom]

/-- Settles O17: below capacity PUSH is `State.enqueue`. -/
theorem pushAppendsToTheQueue : Obligations.PushAppendsToTheQueue := by
  intro w s t hinv ha he hroom h
  obtain rfl : (s.enqueue w).respond 1 = t := Host.Outcome.next.inj ((exec_push_accepted ha he hroom w).symm.trans h)
  exact ⟨queued_enqueue hinv.config hroom w, enqueue_depth hinv.config hroom w⟩

/-! ### POP run alone (R120) -/

theorem popAndRespond_of_error {s : State} {c : FaultCode} (h : s.popWord = .error c) :
    s.popAndRespond = s.raiseOpen c := by
  rw [State.popAndRespond, h]

theorem popAndRespond_of_ok {s t : State} {w : Word} (h : s.popWord = .ok (w, t)) : s.popAndRespond = t.respond w := by
  rw [State.popAndRespond, h]

/-- The consumer's POP: each fault of R120 is raised, and a popped word is answered. -/
theorem exec_pop_of_consumer {s : State} (ha : s.agent = .consumer) :
    (∀ c, s.popWord = .error c → ∃ t, exec .pop s = .next t ∧ s.faultedFrom c t) ∧
    (∀ w t, s.popWord = .ok (w, t) → exec .pop s = .next (t.respond w)) := by
  have hpop : exec .pop s = .next s.popAndRespond := exec_of_issuer ((mem_issuers_internal (.inr rfl) s.agent).mpr ha)
  exact ⟨fun c hc => ⟨_, hpop.trans (congrArg _ (popAndRespond_of_error hc)), faultedFrom_raiseOpen c s⟩,
    fun w t hw => hpop.trans (congrArg _ (popAndRespond_of_ok hw))⟩

/-- Settles O16: the outcomes of `State.popWord` by depth and head slot, behind `exec_pop_of_consumer`. -/
theorem popTakesTheHeadWord : Obligations.PopTakesTheHeadWord := by
  intro s ha
  obtain ⟨hfault, hword⟩ := exec_pop_of_consumer ha
  refine ⟨fun h => hfault _ (popWord_empty h), fun h h0 => hfault _ (popWord_above_capacity h h0), fun h0 hle => ?_⟩
  obtain ⟨hunwritten, hhead⟩ := popWord_within_capacity h0 hle
  exact ⟨fun hr => hfault _ (hunwritten hr), fun w hr => hword w _ (hhead w hr)⟩

/-- Settles O18: under the invariant the head slot is written, so POP answers its word. -/
theorem popRemovesTheFirstOfTheQueue : Obligations.PopRemovesTheFirstOfTheQueue := by
  intro s hinv ha h0
  obtain ⟨w, hr⟩ := hinv.queueInv.head h0
  obtain ⟨-, hpop⟩ := popWord_within_capacity h0 hinv.depth
  obtain ⟨-, hword⟩ := exec_pop_of_consumer ha
  exact ⟨s.dequeue.respond w, hword w _ (hpop w hr), queued_eq_cons h0 hr, dequeue_depth h0, rfl⟩

end Sys2Proof.Machine
end

section
/-! PROOFS. Frames: the payload is the permuted word (R92), the cipher is undone (R146, R147), REFILL run alone (R140 to
R143), and the TXSTEP of states that no run reaches (R37, R203). -/

namespace Sys2Proof.Machine

/-! ### The payload -/

/-- Reading the four places of a layout in order gives the layout. -/
theorem map_getD_of_length_four {l : List Nat} (h : l.length = 4) : [0, 1, 2, 3].map (l.getD · 0) = l := by
  obtain ⟨a, b, c, d, rfl⟩ := List.length_eq_four.mp h
  rfl

/-- The payload takes the bytes of the word in the order of the layout. -/
theorem plainFrame_payload_eq_map {c : Config} (h : c.payloadLayout.length = 4) (w : Word) :
    [(plainFrame c w).b4, (plainFrame c w).b5, (plainFrame c w).b6, (plainFrame c w).b7] =
      c.payloadLayout.map (wordByte w) := by
  calc
    _ = [0, 1, 2, 3].map (payloadByte c w) := plainFrame_payload c w
    _ = ([0, 1, 2, 3].map (c.payloadLayout.getD · 0)).map (wordByte w) := List.map_map.symm
    _ = c.payloadLayout.map (wordByte w) := by rw [map_getD_of_length_four h]

/-- Settles O21: a valid layout is a permutation of 0 to 3, and the payload maps it to the bytes of the word. -/
theorem payloadIsThePermutedWord : Obligations.PayloadIsThePermutedWord := by
  intro c w h
  obtain ⟨-, -, hlayout, -⟩ := c.wellFormed_iff.mp h
  have hperm := c.layoutOk_iff.mp hlayout
  rw [plainFrame_payload_eq_map hperm.length_eq]
  exact hperm.map (wordByte w)

/-! ### The cipher -/

/-- The wire frame of an enciphering configuration, and of one that does not encipher (R94, R146). -/
theorem wireFrame_of_encrypt {c : Config} (h : c.encrypt = true) (w : Word) :
    wireFrame c w = cipherEnc c (plainFrame c w) (keyBlock c) := if_pos h

theorem wireFrame_of_not_encrypt {c : Config} (h : c.encrypt = false) (w : Word) :
    wireFrame c w = plainFrame c w := if_neg (ne_true_of_eq_false h)

/-- Deciphering the wire bytes gives the plaintext frame back (R14, R146). -/
theorem cipherDec_wireFrame {c : Config} (h : c.wellFormed = true) (he : c.encrypt = true) (w : Word) :
    cipherDec c (wireFrame c w) (keyBlock c) = plainFrame c w := by
  rw [wireFrame_of_encrypt he, Config.roundTrip h]

/-- Settles O23: the round-trip law gives the plaintext frame back, whose bytes cancel by R147. -/
theorem wireFrameDeciphers : Obligations.WireFrameDeciphers := by
  refine fun c w h => ⟨fun he => ⟨cipherDec_wireFrame h he w, ?_⟩, fun he => wireFrame_of_not_encrypt he w⟩
  rw [cipherDec_wireFrame h he]
  exact plainFrameXorsToZero c w

/-! ### REFILL run alone -/

/-- A count of at most eight bytes survives the 4-bit response (R83). -/
theorem setWidth_count {n : Nat} (h : n ≤ 8) : (BitVec.ofNat 4 n).setWidth 32 = BitVec.ofNat 32 n := by
  apply BitVec.eq_of_toNat_eq
  simp only [BitVec.toNat_setWidth, BitVec.toNat_ofNat]
  omega

/-- The consumer's REFILL: a fault of POP is raised, and a count of bytes is answered. -/
theorem exec_refill_of_consumer {s : State} (ha : s.agent = .consumer) :
    (∀ c, s.refillFrame = .error c → ∃ t, exec .refill s = .next t ∧ s.faultedFrom c t) ∧
    (∀ n t, n ≤ 8 → s.refillFrame = .ok (n, t) → exec .refill s = .next (t.respond (BitVec.ofNat 32 n))) := by
  have hrefill : exec .refill s = .next s.refillAndRespond :=
    exec_of_issuer ((mem_issuers_internal (.inl rfl) s.agent).mpr ha)
  refine ⟨fun c hc => ⟨s.raiseOpen c, ?_, faultedFrom_raiseOpen c s⟩, fun n t hn ht => ?_⟩
  · rw [hrefill, State.refillAndRespond, hc]
  · rw [hrefill, State.refillAndRespond, ht, ← setWidth_count hn]

/-- Settles O25: the cases of `State.refillFrame` by cursor, depth and head slot, behind `exec_refill_of_consumer`. -/
theorem refillBuildsTheNextFrame : Obligations.RefillBuildsTheNextFrame := by
  intro s ha
  obtain ⟨hfault, hcount⟩ := exec_refill_of_consumer ha
  refine ⟨fun hc => hcount _ _ (Nat.sub_le 8 _) (refillFrame_undrained hc),
    fun hc h0 => hcount _ _ (Nat.zero_le 8) (refillFrame_empty hc h0), fun hc h0 => ?waiting⟩
  obtain ⟨hpopFault, -⟩ := refillFrame_waiting hc h0
  refine ⟨fun hover => hfault _ (hpopFault _ (popWord_above_capacity hover h0)),
    fun hle => ⟨fun hr => ?unwritten, fun w hr => ?built⟩⟩
  case unwritten =>
    obtain ⟨hunwritten, -⟩ := popWord_within_capacity h0 hle
    exact hfault _ (hpopFault _ (hunwritten hr))
  case built => exact ⟨wireFrame s.cfg w, rfl, hcount _ _ le_rfl (refillFrame_builds hc h0 hle hr)⟩

/-! ### TXSTEP in states that no run reaches -/

/-- A fault after the response was set leaves what R202 says, and that response. -/
theorem faultedFrom_raise_respond (c : FaultCode) (v : Word) (s : State) : s.faultedFrom c ((s.respond v).raise c) :=
  ⟨Option.some_ne_none c, fun _ => rfl, rfl, rfl⟩

/-- A fault of the REFILL inside it ends TXSTEP, which has answered 0 (R171, R202). -/
theorem transmitStep_of_refillFrame_error {s : State} {c : FaultCode} (h : s.regEmpty = true)
    (hr : s.refillFrame = .error c) : s.transmitStep = (s.respond 0).raise c := by
  rw [State.transmitStep, if_pos h, hr]

theorem exec_txstep_of_consumer {s : State} (ha : s.agent = .consumer) (he : s.cfg.traceEnabled = true) :
    exec .txstep s = .next s.transmitStep :=
  exec_of_enabled rfl ((mem_issuers_txstep s.agent).mpr ha) he

/-- An unwritten byte under a cursor inside the frame is sent as some byte (R37). -/
theorem sendByte_of_unwritten {s : State} (h : s.cur.val < 8) (hb : s.buf.get ⟨s.cur.val, h⟩ = none) :
    ∃ b, s.sendByte =
      { s with
        cur := ⟨s.cur.val + 1, by omega⟩
        wire := s.wire ++ [b]
        log := s.log ++ [.tx b, .ieEn]
        regEmpty := false
        txState := true
        ie := true
        resp := 0
        result := .ok
        free := s.free + 1 } := by
  refine ⟨Config.freeByte s.free, ?_⟩
  rw [← advance_eq h]
  simp [State.sendByte, State.takeByte, bufByte_eq_get s.buf h, hb, State.transmitByte, State.setTxState,
    State.enableEmptyInterrupt, State.respond]

/-- Settles O27: with the register empty, the fault of POP or the unwritten byte decides what is left. -/
theorem txstepOutsideTheInvariant : Obligations.TxstepOutsideTheInvariant := by
  intro s ha he hempty
  have hstep := exec_txstep_of_consumer ha he
  have hfaulted : ∀ c, s.cur.val = 8 → 0 < s.depth.toNat → s.popWord = .error c →
      ∃ t, exec .txstep s = .next t ∧ s.faultedFrom c t ∧ t.resp = 0 ∧ t.free = s.free := by
    intro c hc h0 hp
    obtain ⟨hfault, -⟩ := refillFrame_waiting hc h0
    exact ⟨(s.respond 0).raise c, hstep.trans (congrArg _ (transmitStep_of_refillFrame_error hempty (hfault c hp))),
      faultedFrom_raise_respond c 0 s, rfl, rfl⟩
  refine ⟨fun hc h0 hover => hfaulted _ hc h0 (popWord_above_capacity hover h0), fun hc h0 hle hr => ?_, fun hc hb => ?_⟩
  · obtain ⟨hunwritten, -⟩ := popWord_within_capacity h0 hle
    exact hfaulted _ hc h0 (hunwritten hr)
  · obtain ⟨b, hsend⟩ := sendByte_of_unwritten hc hb
    exact ⟨b, hstep.trans (congrArg _ ((transmitStep_undrained hempty hc).trans hsend))⟩

end Sys2Proof.Machine
end

section
/-! PROOFS. What serving an operation can leave, in every state (`State.Serves`), and what follows for a step: at most one
byte and its log entry (R31, R187), the writers of each piece of state (R20 to R32), the silence of a masked block (R184,
R209). -/

namespace Sys2Proof.Machine

/-! ### REFILL and the sent byte, in every state -/

/-- REFILL leaves bytes to send by leaving the frame in flight as it is, or by building the frame of the head word. -/
theorem refillFrame_ok_pos {s u : State} {n : Nat} (hr : s.refillFrame = .ok (n, u)) (hn : 0 < n) :
    (s.cur.val < 8 ∧ u = s) ∨
    (∃ w, s.cur.val = 8 ∧ 0 < s.depth.toNat ∧ Memory.read s.mem (slotOf s.cfg s.ri) = some w ∧
      u = s.dequeue.loadFrame w) := by
  rcases refillFrame_cases s with ⟨hc, h⟩ | ⟨_, _, h⟩ | ⟨c, _, _, _, h⟩ | ⟨w, hc, hd, _, hhead, h⟩ <;> rw [hr] at h
  · obtain ⟨-, rfl⟩ := Prod.mk.inj (Except.ok.inj h)
    exact .inl ⟨hc, rfl⟩
  · obtain ⟨rfl, -⟩ := Prod.mk.inj (Except.ok.inj h)
    exact absurd hn (lt_irrefl 0)
  · cases h
  · obtain ⟨-, rfl⟩ := Prod.mk.inj (Except.ok.inj h)
    exact .inr ⟨w, by simp [hc], Nat.pos_of_ne_zero fun h0 => hd (BitVec.eq_of_toNat_eq h0), hhead, rfl⟩

/-- REFILL finds nothing to send only where the frame is drained and no word waits; it then changes nothing. -/
theorem refillFrame_ok_zero {s u : State} (hr : s.refillFrame = .ok (0, u)) :
    s.cur.val = 8 ∧ s.depth.toNat = 0 ∧ u = s := by
  rcases refillFrame_cases s with ⟨hc, h⟩ | ⟨hc, hd, h⟩ | ⟨c, _, _, _, h⟩ | ⟨w, _, _, _, _, h⟩ <;> rw [hr] at h
  · obtain ⟨hzero, -⟩ := Prod.mk.inj (Except.ok.inj h)
    omega
  · obtain ⟨-, rfl⟩ := Prod.mk.inj (Except.ok.inj h)
    exact ⟨by simp [hc], by simp [hd], rfl⟩
  · cases h
  · obtain ⟨hzero, -⟩ := Prod.mk.inj (Except.ok.inj h)
    omega

/-- REFILL writes the read counter, the frame buffer and the cursor, and nothing else. -/
theorem refillFrame_fixed {s u : State} {n : Nat} (hr : s.refillFrame = .ok (n, u)) (hn : 0 < n) :
    u = { s with ri := u.ri, buf := u.buf, cur := u.cur } := by
  rcases refillFrame_ok_pos hr hn with ⟨-, rfl⟩ | ⟨w, -, -, -, rfl⟩ <;> rfl

/-- The Sending path sends one byte, the frame's or a free one. -/
theorem sendByte_eq_of_some_byte (s : State) :
    ∃ b n, s.sendByte =
      { s with
        cur := advance s.cur
        wire := s.wire ++ [b]
        log := s.log ++ [.tx b, .ieEn]
        regEmpty := false
        txState := true
        ie := true
        resp := 0
        result := .ok
        free := n } := by
  rcases takeByte_cases s with ⟨b, hb, -⟩ | ⟨-, ht⟩
  · exact ⟨b, s.free, sendByte_eq hb⟩
  · exact ⟨Config.freeByte s.free, s.free + 1, by
      simp [State.sendByte, ht, State.transmitByte, State.setTxState, State.enableEmptyInterrupt, State.respond]⟩

/-! ### What serving an operation leaves -/

/-- `s.Serves i t`: serving the port's operation `i` in state `s` leaves `t`, by one of these paths. -/
inductive State.Serves (s : State) : Instr → State → Prop where
  /-- PUSH on a disabled block or a full queue (R111, R113). -/
  | dropped (w : Word) (h : ¬(s.cfg.traceEnabled = true ∧ s.depth.toNat < s.cfg.capacity)) :
      s.Serves (.push w) (s.respond 0)
  /-- PUSH below capacity (R110). -/
  | accepted (w : Word) (he : s.cfg.traceEnabled = true) (hroom : s.depth.toNat < s.cfg.capacity) :
      s.Serves (.push w) ((s.enqueue w).respond 1)
  /-- PUSH above capacity (R203). -/
  | pushFaulted (w : Word) (h : s.cfg.capacity < s.depth.toNat) : s.Serves (.push w) (s.raiseOpen .invariant)
  /-- DEPTH (R130, R131). -/
  | counted (v : Word) : s.Serves .depth (s.respond v)
  /-- DEPTH above capacity (R203). -/
  | depthFaulted (h : s.cfg.capacity < s.depth.toNat) : s.Serves .depth (s.raiseOpen .invariant)
  /-- STATUS (R179, R180). -/
  | flagRead (v : Word) : s.Serves .status (s.respond v)
  /-- TXSTEP on a disabled block or with the register busy (R172, R173). -/
  | quiet (h : s.cfg.traceEnabled = true → s.regEmpty = false) : s.Serves .txstep (s.respond 0)
  /-- TXSTEP whose REFILL faults (R203). -/
  | refillFaulted {c : FaultCode} (hr : s.refillFrame = .error c) : s.Serves .txstep ((s.respond 0).raise c)
  /-- TXSTEP with nothing to send (R175). -/
  | idled (he : s.cfg.traceEnabled = true) (hempty : s.regEmpty = true) (hc : s.cur.val = 8) (h0 : s.depth.toNat = 0) :
      s.Serves .txstep s.goIdle
  /-- TXSTEP that sends a byte of what REFILL leaves (R174). -/
  | sent {n : Nat} {u : State} (he : s.cfg.traceEnabled = true) (hempty : s.regEmpty = true) (hn : 0 < n)
      (hr : s.refillFrame = .ok (n, u)) : s.Serves .txstep u.sendByte
  /-- TXDONE (R181). -/
  | emptied : s.Serves .txdone s.registerDone
  /-- IEON (R182). -/
  | enabled : s.Serves .ieon s.hostEnable
  /-- RESET (R230). -/
  | initialised : s.Serves .reset (s.initContext.respond 0)

theorem serves_push (w : Word) (s : State) : s.Serves (.push w) (effect (.push w) s) := by
  cases he : s.cfg.traceEnabled with
  | false =>
    rw [effect, whenEnabled_off he]
    exact .dropped w fun h => ne_true_of_eq_false he h.1
  | true =>
    rw [effect, whenEnabled_on he]
    rcases lt_trichotomy s.depth.toNat s.cfg.capacity with hlt | heq | hgt
    · rw [pushWord_below_capacity hlt]
      exact .accepted w he hlt
    · rw [pushWord_at_capacity heq]
      exact .dropped w fun h => h.2.ne heq
    · rw [pushWord_above_capacity hgt]
      exact .pushFaulted w hgt

theorem serves_depth (s : State) : s.Serves .depth (effect .depth s) := by
  cases he : s.cfg.traceEnabled with
  | false =>
    rw [effect, whenEnabled_off he]
    exact .counted 0
  | true =>
    rw [effect, whenEnabled_on he]
    rcases le_or_gt s.depth.toNat s.cfg.capacity with hle | hgt
    · rw [reportDepth_within_capacity hle]
      exact .counted s.depth
    · rw [reportDepth_above_capacity hgt]
      exact .depthFaulted hgt

theorem serves_status (s : State) : s.Serves .status (effect .status s) := by
  cases he : s.cfg.traceEnabled with
  | false =>
    rw [effect, whenEnabled_off he]
    exact .flagRead 0
  | true =>
    rw [effect, whenEnabled_on he]
    exact .flagRead (bitWord s.txState)

theorem serves_txstep (s : State) : s.Serves .txstep (effect .txstep s) := by
  cases he : s.cfg.traceEnabled with
  | false =>
    rw [effect, whenEnabled_off he]
    exact .quiet fun h => absurd h (ne_true_of_eq_false he)
  | true =>
    rw [effect, whenEnabled_on he]
    cases hempty : s.regEmpty with
    | false =>
      rw [transmitStep_busy hempty]
      exact .quiet fun _ => hempty
    | true =>
      cases hr : s.refillFrame with
      | error c =>
        rw [transmitStep_of_refillFrame_error hempty hr]
        exact .refillFaulted hr
      | ok p =>
        obtain ⟨n, u⟩ := p
        rw [transmitStep_of_refillFrame hempty hr]
        rcases Nat.eq_zero_or_pos n with rfl | hn
        · obtain ⟨hc, h0, rfl⟩ := refillFrame_ok_zero hr
          exact .idled he hempty hc h0
        · rw [if_pos hn]
          exact .sent he hempty hn hr

/-- Every operation of the port acts by one of the paths of `State.Serves`. -/
theorem effect_serves {i : Instr} (hi : i.format ≠ .internal) (s : State) : s.Serves i (effect i s) := by
  cases i with
  | push w => exact serves_push w s
  | depth => exact serves_depth s
  | status => exact serves_status s
  | txstep => exact serves_txstep s
  | txdone => exact .emptied
  | ieon => exact .enabled
  | reset => exact .initialised
  | refill | pop => exact absurd rfl hi

/-- A step refuses the first pending transaction, or serves its operation. -/
theorem step_serves {s t : State} (h : step s = .next t) :
    ∃ x rest,
      (∃ r, s.served = none ∧ t = (s.take x rest).refuse r) ∨
      (∃ i, s.served = some i ∧ (s.take x rest).Serves i t) := by
  obtain ⟨x, rest, -, hrefused | ⟨i, hs, hi, -, rfl⟩⟩ := step_cases h
  · exact ⟨x, rest, .inl hrefused⟩
  · exact ⟨x, rest, .inr ⟨i, hs, effect_serves hi (s.take x rest)⟩⟩

/-! ### The wire and the log -/

theorem sentBytes_append (l m : List Event) : sentBytes (l ++ m) = sentBytes l ++ sentBytes m :=
  List.filterMap_append

/-- Serving an operation appends at most one byte to the wire and its entry to the log, and does so only for TXSTEP. -/
theorem serves_appends {s t : State} {i : Instr} (h : s.Serves i t) :
    ∃ (bs : List Byte) (es : List Event), t.wire = s.wire ++ bs ∧ t.log = s.log ++ es ∧ bs.length ≤ 1 ∧
      sentBytes es = bs ∧ (i ≠ .txstep → es = []) := by
  cases h with
  | idled => exact ⟨[], [.ieDis], (List.append_nil _).symm, rfl, Nat.zero_le 1, rfl, fun hne => absurd rfl hne⟩
  | @sent n u he hempty hn hr =>
    obtain ⟨b, k, hb⟩ := sendByte_eq_of_some_byte u
    rw [hb, refillFrame_fixed hr hn]
    exact ⟨[b], [.tx b, .ieEn], rfl, rfl, le_rfl, rfl, fun hne => absurd rfl hne⟩
  | dropped | accepted | pushFaulted | counted | depthFaulted | flagRead | quiet | refillFaulted | emptied | enabled
    | initialised =>
    exact ⟨[], [], (List.append_nil _).symm, (List.append_nil _).symm, Nat.zero_le 1, rfl, fun _ => rfl⟩

/-- Settles O32: a refusal appends nothing, and `serves_appends` says what serving an operation appends. -/
theorem oneByteInAStep : Obligations.OneByteInAStep := by
  intro s t h
  obtain ⟨x, rest, ⟨r, -, rfl⟩ | ⟨i, hs, ht⟩⟩ := step_serves h
  · exact ⟨[], [], (List.append_nil _).symm, (List.append_nil _).symm, Nat.zero_le 1, rfl, fun _ => rfl⟩
  · obtain ⟨bs, es, hwire, hlog, hlen, hsent, hquiet⟩ := serves_appends ht
    exact ⟨bs, es, hwire, hlog, hlen, hsent, fun hne => hquiet fun hi => hne (hs.trans (congrArg some hi))⟩

/-! ### The writers of each piece of state -/

/-- Settles O41: a refusal writes its mark alone; each path of `State.Serves` writes what its operation owns. -/
theorem onlyItsWritersChangeState : Obligations.OnlyItsWritersChangeState := by
  intro s t h
  obtain ⟨x, rest, ⟨r, hs, rfl⟩ | ⟨i, hs, ht⟩⟩ := step_serves h
  · simp [hs]
  · cases ht with
    | @sent n u he hempty hn hr =>
      obtain ⟨b, k, hb⟩ := sendByte_eq_of_some_byte u
      rw [hb, refillFrame_fixed hr hn]
      simp [hs]
    | idled => simp [hs, goIdle_eq]
    | emptied => simp [hs, State.registerDone]
    | enabled => simp [hs, State.hostEnable]
    | dropped | accepted | pushFaulted | counted | depthFaulted | flagRead | quiet | refillFaulted | initialised => simp [hs]

/-- With the interrupt masked and no kick asked for, the rule of the interrupt-driven driver allows no TXSTEP (R209). -/
theorem served_ne_txstep_of_masked {s : State} {k : Kicks} (hie : s.ie = false) (hk : k.asked = 0)
    (hdriver : s.interruptDriven k) : s.served ≠ some .txstep := by
  intro hs
  rcases hdriver hs with hpending | hasked
  · simp [State.irqPending, hie] at hpending
  · omega

/-- Settles O48: the driver rules TXSTEP out, and the interrupt enable, the wire and the log have no other writer than
TXSTEP and IEON. -/
theorem maskedBlockStaysSilent : Obligations.MaskedBlockStaysSilent := by
  intro s t k hie hk hdriver hieon h
  have htxstep := served_ne_txstep_of_masked hie hk hdriver
  obtain ⟨-, -, -, -, henable, -, hsent, -, -⟩ := onlyItsWritersChangeState s t h
  have hmasked : t.ie = false := (henable.resolve_right (not_or.mpr ⟨htxstep, hieon⟩)).trans hie
  obtain ⟨hwire, hlog⟩ := hsent.resolve_right htxstep
  exact ⟨hmasked, by simp [State.irqPending, hmasked], hwire, hlog⟩

end Sys2Proof.Machine
end

section
/-! PROOFS. The invariant (spec/10_state.md): it holds at power-on and every step keeps it; under it no fault is raised
(R203), the depth moves one way for each agent (R132), and TXSTEP leaves the flag and the interrupt paired (R174, R175,
R183, R208). -/

namespace Sys2Proof.Machine

/-! ### What the invariant does not speak of -/

/-- The queue's part of the invariant depends on the configuration, the storage and the two counters alone. -/
theorem State.QueueInv.congr {s t : State} (h : s.QueueInv)
    (heq : { s with cfg := t.cfg, mem := t.mem, wi := t.wi, ri := t.ri } = s) : t.QueueInv := by
  have h' := heq.symm ▸ h
  exact ⟨h'.config, h'.memory, h'.slots, h'.depth, h'.written⟩

/-- The invariant does not speak of the marks, the response, the agent, the port and the free values. -/
theorem State.Inv.congr {s t : State} (h : s.Inv)
    (heq : { t with fault := s.fault, refused := s.refused, resp := s.resp, result := s.result, agent := s.agent,
                    port := s.port, free := s.free } = s) : t.Inv := by
  have h' := heq.symm ▸ h
  exact ⟨h'.config, h'.memory, h'.slots, h'.depth, h'.written, h'.cursor, h'.frame, h'.inFlight, h'.paired, h'.busy,
    h'.wireLogged⟩

/-! ### The queue empty, the queue within capacity -/

theorem queueInv_of_empty {s : State} (hc : s.cfg.wellFormed = true) (hm : s.mem = []) (h0 : s.depth.toNat = 0) :
    s.QueueInv := by
  refine ⟨hc, ?_, ?_, ?_, ?_⟩
  · simp [hm, Memory.wf]
  · simp [hm]
  · simp [h0]
  · simp [h0]

/-- Within capacity and with the waiting slots written, REFILL does not fault. -/
theorem State.QueueInv.refillFrame {s : State} (h : s.QueueInv) : ∃ n u, s.refillFrame = .ok (n, u) := by
  rcases Nat.lt_or_ge s.cur.val 8 with hc | hc
  · exact ⟨_, _, refillFrame_undrained hc⟩
  · have h8 : s.cur.val = 8 := by omega
    rcases Nat.eq_zero_or_pos s.depth.toNat with h0 | h0
    · exact ⟨_, _, refillFrame_empty h8 h0⟩
    · obtain ⟨w, hr⟩ := h.head h0
      exact ⟨_, _, refillFrame_builds h8 h0 h.depth hr⟩

theorem State.QueueInv.refillFrame_ne_error {s : State} (h : s.QueueInv) (c : FaultCode) : s.refillFrame ≠ .error c := by
  obtain ⟨n, u, hr⟩ := h.refillFrame
  simp [hr]

/-! ### A frame with bytes to send -/

theorem octets_get_map_some {α : Type} (o : Octets α) (i : Fin 8) : (o.map some).get i = some (o.get i) :=
  List.getElem_map (l := o.toList) (i := i.val) (h := i.isLt) some

/-- A state between REFILL and the sending of a byte: as in the invariant, but the cursor may stand before the first byte. -/
structure State.Loaded (u : State) : Prop where
  queue : u.QueueInv
  cursor : u.cur.val < 8
  frame : ∀ i : Fin 8, u.cur.val ≤ i.val → (u.buf.get i).isSome = true
  wireLogged : u.wire = sentBytes u.log

/-- Where REFILL finds something to send it leaves a written frame. -/
theorem State.Inv.loaded {s u : State} {n : Nat} (h : s.Inv) (hr : s.refillFrame = .ok (n, u)) (hn : 0 < n) :
    u.Loaded := by
  rcases refillFrame_ok_pos hr hn with ⟨hc, rfl⟩ | ⟨w, -, h0, -, rfl⟩
  · exact ⟨h.queueInv, hc, h.frame, h.wireLogged⟩
  · exact ⟨(h.queueInv.dequeue h0).congr rfl, Nat.zero_lt_succ 7,
      fun i _ => congrArg Option.isSome (octets_get_map_some (wireFrame s.cfg w) i), h.wireLogged⟩

/-- The byte sent from a loaded state is the one under the cursor, and no free value. -/
theorem State.Loaded.sendByte {u : State} (h : u.Loaded) :
    ∃ b, u.buf.get ⟨u.cur.val, h.cursor⟩ = some b ∧ u.sendByte =
      { u with
        cur := advance u.cur
        wire := u.wire ++ [b]
        log := u.log ++ [.tx b, .ieEn]
        regEmpty := false
        txState := true
        ie := true
        resp := 0
        result := .ok } := by
  obtain ⟨b, hb⟩ := Option.isSome_iff_exists.mp (h.frame ⟨u.cur.val, h.cursor⟩ le_rfl)
  exact ⟨b, hb, sendByte_eq ((bufByte_eq_get u.buf h.cursor).trans hb)⟩

/-! ### Every path keeps the invariant -/

theorem State.Inv.enqueue {s : State} (h : s.Inv) (hroom : s.depth.toNat < s.cfg.capacity) (w : Word) :
    (s.enqueue w).Inv :=
  have hq := h.queueInv.enqueue hroom w
  ⟨hq.config, hq.memory, hq.slots, hq.depth, hq.written, h.cursor, h.frame, h.inFlight, h.paired, h.busy, h.wireLogged⟩

/-- Sending a byte restores the invariant: the cursor leaves the start, the flag and the enable are set together. -/
theorem State.Loaded.inv_sendByte {u : State} (h : u.Loaded) : u.sendByte.Inv := by
  obtain ⟨b, -, hsend⟩ := h.sendByte
  have hq : u.sendByte.QueueInv := h.queue.congr (by rw [hsend])
  have hnext : (advance u.cur).val = u.cur.val + 1 := advance_val h.cursor
  rw [hsend] at hq ⊢
  exact {
    config := hq.config
    memory := hq.memory
    slots := hq.slots
    depth := hq.depth
    written := hq.written
    cursor := hnext.ge.trans' (Nat.succ_pos u.cur.val)
    frame := fun i hi => h.frame i (Nat.le_of_succ_le (hnext.ge.trans hi))
    inFlight := fun _ => rfl
    paired := fun _ => rfl
    busy := fun _ => rfl
    wireLogged := by
      rw [sentBytes_append, ← h.wireLogged]
      rfl }

/-- The Idle path keeps the invariant where it is taken: no frame is in flight and the register is empty. -/
theorem State.Inv.goIdle {s : State} (h : s.Inv) (hempty : s.regEmpty = true) (hc : s.cur.val = 8) : s.goIdle.Inv where
  config := h.config
  memory := h.memory
  slots := h.slots
  depth := h.depth
  written := h.written
  cursor := h.cursor
  frame := h.frame
  inFlight := fun hlt => absurd hc hlt.ne
  paired := fun hflag => Bool.noConfusion hflag
  busy := fun hbusy => absurd hempty (ne_true_of_eq_false hbusy)
  wireLogged := by
    rw [goIdle_eq, sentBytes_append]
    exact h.wireLogged.trans (List.append_nil _).symm

theorem State.Inv.registerDone {s : State} (h : s.Inv) : s.registerDone.Inv :=
  ⟨h.config, h.memory, h.slots, h.depth, h.written, h.cursor, h.frame, h.inFlight, h.paired,
    fun hbusy => Bool.noConfusion hbusy, h.wireLogged⟩

theorem State.Inv.hostEnable {s : State} (h : s.Inv) : s.hostEnable.Inv :=
  ⟨h.config, h.memory, h.slots, h.depth, h.written, h.cursor, h.frame, h.inFlight, fun _ => rfl, fun _ => rfl,
    h.wireLogged⟩

/-- A state with the initial context meets the invariant if its collaborator does: nothing is in flight and the queue is
empty. -/
theorem inv_of_initial {s : State} (hc : s.cfg.wellFormed = true) (hm : s.mem = []) (h0 : s.depth.toNat = 0)
    (hcur : s.cur.val = 8) (hflag : s.txState = false) (hbusy : s.regEmpty = false → s.ie = true)
    (hwire : s.wire = sentBytes s.log) : s.Inv :=
  have hq := queueInv_of_empty hc hm h0
  { config := hq.config
    memory := hq.memory
    slots := hq.slots
    depth := hq.depth
    written := hq.written
    cursor := by omega
    frame := fun i hi => absurd i.isLt (by omega)
    inFlight := fun hlt => absurd hcur hlt.ne
    paired := fun h => absurd h (ne_true_of_eq_false hflag)
    busy := hbusy
    wireLogged := hwire }

theorem State.Inv.initContext {s : State} (h : s.Inv) : s.initContext.Inv :=
  inv_of_initial h.config rfl (congrArg BitVec.toNat (initContext_depth s)) rfl rfl h.busy h.wireLogged

/-- The power-on state of a valid configuration meets the invariant. -/
theorem inv_powerOn {c : Config} (h : c.wellFormed = true) : (State.powerOn c).Inv :=
  inv_of_initial h rfl (congrArg BitVec.toNat (powerOn_depth c)) rfl rfl (fun hbusy => Bool.noConfusion hbusy) rfl

/-- Settles O37: the reset state is the power-on state of TC1, which is valid. -/
theorem powerOnMeetsTheInvariant : Obligations.PowerOnMeetsTheInvariant :=
  ⟨fun _ => inv_powerOn, inv_powerOn (by decide)⟩

theorem State.Inv.serves {s t : State} {i : Instr} (h : s.Inv) (ht : s.Serves i t) : t.Inv := by
  cases ht with
  | accepted w he hroom => exact (h.enqueue hroom w).congr rfl
  | idled he hempty hc h0 => exact h.goIdle hempty hc
  | sent he hempty hn hr => exact (h.loaded hr hn).inv_sendByte
  | emptied => exact h.registerDone
  | enabled => exact h.hostEnable
  | initialised => exact h.initContext.congr rfl
  | dropped | pushFaulted | counted | depthFaulted | flagRead | quiet | refillFaulted => exact h.congr rfl

/-- Taking a transaction off the port keeps the invariant. -/
theorem State.Inv.take {s : State} (h : s.Inv) (x : Transaction) (rest : List Transaction) : (s.take x rest).Inv :=
  h.congr rfl

/-- Settles O38: a refusal touches nothing the invariant speaks of, and each path of `State.Serves` keeps it. -/
theorem stepKeepsTheInvariant : Obligations.StepKeepsTheInvariant := by
  intro s t h hstep
  obtain ⟨x, rest, ⟨r, -, rfl⟩ | ⟨i, -, ht⟩⟩ := step_serves hstep
  · exact h.congr rfl
  · exact (h.take x rest).serves ht

/-! ### No fault, no free value -/

/-- Under the invariant the three faulting paths are ruled out, and the byte under the cursor is written. -/
theorem State.Inv.serves_without_fault {s t : State} {i : Instr} (h : s.Inv) (ht : s.Serves i t) :
    t.fault = s.fault ∧ t.free = s.free ∧ t.result = .ok := by
  cases ht with
  | pushFaulted w hover => exact absurd h.depth hover.not_ge
  | depthFaulted hover => exact absurd h.depth hover.not_ge
  | refillFaulted hr => exact absurd hr (h.queueInv.refillFrame_ne_error _)
  | @sent n u he hempty hn hr =>
    obtain ⟨b, -, hsend⟩ := (h.loaded hr hn).sendByte
    have hfault : u.fault = s.fault := by rw [refillFrame_fixed hr hn]
    have hfree : u.free = s.free := by rw [refillFrame_fixed hr hn]
    rw [hsend]
    exact ⟨hfault, hfree, rfl⟩
  | dropped | accepted | counted | flagRead | quiet | idled | emptied | enabled | initialised => exact ⟨rfl, rfl, rfl⟩

/-- Settles O39: a refusal is no fault, and what is served ends well. -/
theorem faultsAreNotReached : Obligations.FaultsAreNotReached := by
  intro s t h hstep
  obtain ⟨x, rest, ⟨r, -, rfl⟩ | ⟨i, -, ht⟩⟩ := step_serves hstep
  · exact ⟨rfl, rfl, fun c => by simp⟩
  · obtain ⟨hfault, hfree, hok⟩ := (h.take x rest).serves_without_fault ht
    exact ⟨hfault, hfree, fun c => by simp [hok]⟩

/-! ### The depth -/

/-- REFILL does not raise the depth. -/
theorem refillFrame_depth_le {s u : State} {n : Nat} (hr : s.refillFrame = .ok (n, u)) (hn : 0 < n) :
    u.depth.toNat ≤ s.depth.toNat := by
  rcases refillFrame_ok_pos hr hn with ⟨-, rfl⟩ | ⟨w, -, h0, -, rfl⟩
  · exact le_rfl
  · exact (Nat.le_succ _).trans_eq (dequeue_depth h0)

/-- Only PUSH raises the depth, only TXSTEP and RESET lower it. -/
theorem State.Inv.serves_depth {s t : State} {i : Instr} (h : s.Inv) (ht : s.Serves i t) :
    ((∀ w, i ≠ .push w) → t.depth.toNat ≤ s.depth.toNat) ∧
    (i ≠ .txstep → i ≠ .reset → s.depth.toNat ≤ t.depth.toNat) := by
  cases ht with
  | accepted w he hroom =>
    exact ⟨fun hne => absurd rfl (hne w), fun _ _ => (Nat.le_succ _).trans_eq (enqueue_depth h.config hroom w).symm⟩
  | sent he hempty hn hr =>
    obtain ⟨b, -, hsend⟩ := (h.loaded hr hn).sendByte
    have hle := refillFrame_depth_le hr hn
    rw [hsend]
    exact ⟨fun _ => hle, fun hne => absurd rfl hne⟩
  | initialised =>
    have hzero : s.initContext.depth.toNat = 0 := congrArg BitVec.toNat (initContext_depth s)
    exact ⟨fun _ => hzero.trans_le (Nat.zero_le _), fun _ hne => absurd rfl hne⟩
  | dropped | pushFaulted | counted | depthFaulted | flagRead | quiet | refillFaulted | idled | emptied | enabled =>
    exact ⟨fun _ => le_rfl, fun _ _ => le_rfl⟩

/-- Settles O44: a refusal leaves the depth, and `State.Inv.serves_depth` says which way each operation moves it. -/
theorem depthMovesOneWayForEachAgent : Obligations.DepthMovesOneWayForEachAgent := by
  intro s t h hstep
  obtain ⟨x, rest, ⟨r, -, rfl⟩ | ⟨i, hs, ht⟩⟩ := step_serves hstep
  · exact ⟨fun _ => le_rfl, fun _ _ => le_rfl⟩
  · obtain ⟨hfall, hrise⟩ := (h.take x rest).serves_depth ht
    rw [hs]
    exact ⟨fun hne => hfall fun w hi => hne w (congrArg some hi),
      fun hne hne' => hrise (fun hi => hne (congrArg some hi)) fun hi => hne' (congrArg some hi)⟩

/-! ### What TXSTEP leaves of the flag and the interrupt -/

/-- What a step that serves TXSTEP does to a state of the invariant of an enabled block: nothing while the register is
busy, the Idle path, or the Sending path. -/
theorem State.Inv.step_txstep {s t : State} (h : s.Inv) (he : s.cfg.traceEnabled = true) (hs : s.served = some .txstep)
    (hstep : step s = .next t) :
    ∃ x rest,
      (s.regEmpty = false ∧ t = (s.take x rest).respond 0) ∨
      (s.regEmpty = true ∧ s.cur.val = 8 ∧ s.depth.toNat = 0 ∧ t = (s.take x rest).goIdle) ∨
      (∃ n u, s.regEmpty = true ∧ 0 < n ∧ (s.take x rest).refillFrame = .ok (n, u) ∧ t = u.sendByte) := by
  obtain ⟨x, rest, ⟨r, hnone, -⟩ | ⟨i, hsome, ht⟩⟩ := step_serves hstep
  · simp [hs] at hnone
  · obtain rfl : Instr.txstep = i := Option.some.inj (hs.symm.trans hsome)
    refine ⟨x, rest, ?_⟩
    cases ht with
    | quiet hbusy => exact .inl ⟨hbusy he, rfl⟩
    | refillFaulted hr => exact absurd hr ((h.take x rest).queueInv.refillFrame_ne_error _)
    | idled _ hempty hc h0 => exact .inr (.inl ⟨hempty, hc, h0, rfl⟩)
    | sent _ hempty hn hr => exact .inr (.inr ⟨_, _, hempty, hn, hr, rfl⟩)

/-- Settles O33: the register is busy or just filled, or the interrupt is masked. -/
theorem txstepLeavesNoRequestPending : Obligations.TxstepLeavesNoRequestPending := by
  intro s t h he hs hstep
  obtain ⟨x, rest, ⟨hbusy, rfl⟩ | ⟨-, -, -, rfl⟩ | ⟨n, u, -, -, -, rfl⟩⟩ := h.step_txstep he hs hstep
  · simp [State.irqPending, hbusy]
  · simp [State.irqPending, goIdle_eq]
  · obtain ⟨b, k, hsend⟩ := sendByte_eq_of_some_byte u
    simp [State.irqPending, hsend]

/-- Settles O34: the Idle path clears flag and enable, the Sending path sets both, and REFILL chooses between them by the
cursor and the depth. -/
theorem txstepPairsFlagAndEnable : Obligations.TxstepPairsFlagAndEnable := by
  intro s t h he hempty hs hstep
  obtain ⟨x, rest, ⟨hbusy, -⟩ | ⟨-, hc, h0, rfl⟩ | ⟨n, u, -, hn, hr, rfl⟩⟩ := h.step_txstep he hs hstep
  · exact absurd hempty (ne_true_of_eq_false hbusy)
  · simp [goIdle_eq, State.cursorState, hc, h0]
  · have hleft : s.cur.val < 8 ∨ 0 < s.depth.toNat :=
      (refillFrame_ok_pos hr hn).imp (fun h => h.1) fun ⟨_, _, h0, _⟩ => h0
    obtain ⟨b, k, hsend⟩ := sendByte_eq_of_some_byte u
    rw [hsend]
    exact ⟨rfl, fun _ => hleft, fun _ => rfl⟩

end Sys2Proof.Machine
end

section
/-! PROOFS. The stream of bytes sent, in flight and waiting (R62, R133): no step loses, doubles or reorders a byte, ticks
send the whole stream, a kick starts its first waiting word (R245), and PUSH and TXSTEP commute (R61). -/

namespace Sys2Proof.Machine

/-! ### The parts of the stream -/

theorem unsent_of_drained {s : State} (h : s.cur.val = 8) : s.unsent = [] := by
  rw [State.unsent, h]
  rfl

/-- The byte under the cursor stands before those that the cursor leaves once it has moved on. -/
theorem unsent_eq_cons {s : State} {b : Byte} (h : s.cur.val < 8) (hb : s.buf.get ⟨s.cur.val, h⟩ = some b) :
    s.unsent = b :: (s.buf.toList.drop (s.cur.val + 1)).filterMap id := by
  have hlen : s.cur.val < s.buf.toList.length := h
  have hget : s.buf.toList[s.cur.val] = some b := hb
  rw [State.unsent, List.drop_eq_getElem_cons hlen, hget]
  rfl

/-- Of a frame whose bytes are all written, the bytes from the cursor on are in flight. -/
theorem unsent_of_written {s : State} {f : Block} (h : s.buf = f.map some) : s.unsent = f.toList.drop s.cur.val := by
  have hlist : s.buf.toList = f.toList.map some := congrArg Octets.toList h
  rw [State.unsent, hlist, ← List.map_drop, List.filterMap_map, Function.id_comp, List.filterMap_some]

theorem stream_eq_wire_append (s : State) : ∃ l, s.stream = s.wire ++ l := ⟨_, List.append_assoc _ _ _⟩

/-! ### What keeps the stream -/

/-- REFILL moves the head word from the queue into flight, as its frame, or moves nothing. -/
theorem refillFrame_stream {s u : State} {n : Nat} (hr : s.refillFrame = .ok (n, u)) (hn : 0 < n) :
    u.stream = s.stream := by
  rcases refillFrame_ok_pos hr hn with ⟨-, rfl⟩ | ⟨w, hc, h0, hhead, rfl⟩
  · rfl
  · have hframe : (s.dequeue.loadFrame w).unsent = (wireFrame s.cfg w).toList := unsent_of_written rfl
    calc
      (s.dequeue.loadFrame w).stream
        = s.wire ++ (wireFrame s.cfg w).toList ++ s.dequeue.queued.flatMap fun v => (wireFrame s.cfg v).toList := by
          rw [State.stream, hframe]
          rfl
      _ = s.stream := by simp [State.stream, unsent_of_drained hc, queued_eq_cons h0 hhead]

/-- The sent byte goes from the front of the bytes in flight to the end of the wire. -/
theorem State.Loaded.stream_sendByte {u : State} (h : u.Loaded) : u.sendByte.stream = u.stream := by
  obtain ⟨b, hb, hsend⟩ := h.sendByte
  calc
    u.sendByte.stream
      = (u.wire ++ [b]) ++ (u.buf.toList.drop (u.cur.val + 1)).filterMap id ++
          u.queued.flatMap fun w => (wireFrame u.cfg w).toList := by
        rw [hsend, ← advance_val h.cursor]
        rfl
    _ = u.stream := by simp [State.stream, unsent_eq_cons h.cursor hb]

/-- An accepted PUSH adds the frame of its word at the end. -/
theorem stream_enqueue {s : State} (hc : s.cfg.wellFormed = true) (h : s.depth.toNat < s.cfg.capacity) (w : Word) :
    (s.enqueue w).stream = s.stream ++ (wireFrame s.cfg w).toList := by
  calc
    (s.enqueue w).stream
      = s.wire ++ s.unsent ++ (s.enqueue w).queued.flatMap fun v => (wireFrame s.cfg v).toList := rfl
    _ = s.stream ++ (wireFrame s.cfg w).toList := by simp [State.stream, queued_enqueue hc h]

/-- Drained, with nothing waiting, the stream is what is on the wire. -/
theorem stream_of_drained {s : State} (hc : s.cur.val = 8) (h0 : s.depth.toNat = 0) : s.stream = s.wire := by
  simp [State.stream, unsent_of_drained hc, queued_of_empty h0]

theorem stream_initContext (s : State) : s.initContext.stream = s.wire :=
  stream_of_drained rfl (congrArg BitVec.toNat (initContext_depth s))

/-- What an operation makes of the stream: PUSH with room appends the frame of its word, RESET cuts it to the wire. -/
def streamAfter (s : State) : Instr → List Byte
  | .push w =>
    if s.cfg.traceEnabled = true ∧ s.depth.toNat < s.cfg.capacity then s.stream ++ (wireFrame s.cfg w).toList
    else s.stream
  | .reset => s.wire
  | _ => s.stream

theorem State.Inv.stream_serves {s t : State} {i : Instr} (h : s.Inv) (ht : s.Serves i t) :
    t.stream = streamAfter s i := by
  cases ht with
  | dropped w hno => exact (if_neg hno).symm
  | accepted w he hroom => exact (stream_enqueue h.config hroom w).trans (if_pos ⟨he, hroom⟩).symm
  | pushFaulted w hover => exact (if_neg fun hroom => hroom.2.not_gt hover).symm
  | sent he hempty hn hr => exact (h.loaded hr hn).stream_sendByte.trans (refillFrame_stream hr hn)
  | initialised => exact stream_initContext s
  | counted | depthFaulted | flagRead | quiet | refillFaulted | idled | emptied | enabled => rfl

/-- Settles O45: a refusal leaves the stream, and `State.Inv.stream_serves` says what each operation makes of it. -/
theorem streamIsKept : Obligations.StreamIsKept := by
  intro s t h hstep
  obtain ⟨x, rest, ⟨r, hs, rfl⟩ | ⟨i, hs, ht⟩⟩ := step_serves hstep
  · rw [hs]
    rfl
  · rw [hs, (h.take x rest).stream_serves ht]
    cases i <;> rfl

/-! ### One byte of the stream at a time -/

/-- The number of bytes in flight or waiting. -/
def State.toSend (s : State) : Nat := (8 - s.cur.val) + 8 * s.depth.toNat

/-- REFILL keeps that number: a word that leaves the queue is a frame of eight bytes. -/
theorem refillFrame_toSend {s u : State} {n : Nat} (hr : s.refillFrame = .ok (n, u)) (hn : 0 < n) :
    u.toSend = s.toSend := by
  rcases refillFrame_ok_pos hr hn with ⟨-, rfl⟩ | ⟨w, hc, h0, -, rfl⟩
  · rfl
  · have hdepth := dequeue_depth h0
    have hloaded : (s.dequeue.loadFrame w).toSend = 8 + 8 * s.dequeue.depth.toNat := rfl
    rw [hloaded, State.toSend, hc]
    omega

theorem toSend_eq_zero_iff (s : State) : s.toSend = 0 ↔ s.cur.val = 8 ∧ s.depth.toNat = 0 := by
  have := s.cur.isLt
  simp only [State.toSend]
  omega

/-- Under the invariant REFILL counts no byte only where there is none to send. -/
theorem State.Inv.refillFrame_pos {s : State} (h : s.Inv) (hsend : 0 < s.toSend) :
    ∃ n u, 0 < n ∧ s.refillFrame = .ok (n, u) := by
  obtain ⟨n, u, hr⟩ := h.queueInv.refillFrame
  refine ⟨n, u, Nat.pos_of_ne_zero ?_, hr⟩
  rintro rfl
  obtain ⟨hc, h0, -⟩ := refillFrame_ok_zero hr
  exact hsend.ne' ((toSend_eq_zero_iff s).mpr ⟨hc, h0⟩)

/-- `t` is `s` with byte `b`, the next of the stream, sent and logged, and the block left Sending with the interrupt
enabled. -/
structure State.SendsNext (s : State) (b : Byte) (t : State) : Prop where
  inv : t.Inv
  cfg : t.cfg = s.cfg
  stream : t.stream = s.stream
  toSend : t.toSend + 1 = s.toSend
  wire : t.wire = s.wire ++ [b]
  log : t.log = s.log ++ [.tx b, .ieEn]
  flag : t.txState = true

/-- Sending leaves one byte less to send. -/
theorem State.Loaded.toSend_sendByte {u : State} (h : u.Loaded) : u.sendByte.toSend + 1 = u.toSend := by
  obtain ⟨b, -, hbyte⟩ := h.sendByte
  have hcur := h.cursor
  have hnext : u.sendByte.toSend = (8 - (u.cur.val + 1)) + 8 * u.depth.toNat := by
    rw [hbyte, ← advance_val hcur]
    rfl
  rw [hnext, State.toSend]
  omega

/-- The transmit step with the register empty and something to send (R174). -/
theorem State.Inv.transmitStep_sends {s : State} (h : s.Inv) (hempty : s.regEmpty = true) (hsend : 0 < s.toSend) :
    ∃ b, s.SendsNext b s.transmitStep := by
  obtain ⟨n, u, hn, hr⟩ := h.refillFrame_pos hsend
  have hu := h.loaded hr hn
  obtain ⟨b, -, hbyte⟩ := hu.sendByte
  have hfixed := refillFrame_fixed hr hn
  rw [transmitStep_of_refillFrame hempty hr, if_pos hn]
  exact ⟨b, {
    inv := hu.inv_sendByte
    cfg := by rw [hbyte, hfixed]
    stream := hu.stream_sendByte.trans (refillFrame_stream hr hn)
    toSend := hu.toSend_sendByte.trans (refillFrame_toSend hr hn)
    wire := by rw [hbyte, hfixed]
    log := by rw [hbyte, hfixed]
    flag := by rw [hbyte] }⟩

/-! ### Ticks -/

theorem ticksOps_succ (n : Nat) : ticksOps (n + 1) = tickOps ++ ticksOps n := rfl

theorem ticksOps_succ' (n : Nat) : ticksOps (n + 1) = ticksOps n ++ tickOps := by
  simp [ticksOps, List.replicate_succ']

theorem run_zero (s : State) : Sys2Proof.core.run 0 s = .next s := rfl

theorem run_succ {s t : State} (h : step s = .next t) (n : Nat) : Sys2Proof.core.run (n + 1) s = Sys2Proof.core.run n t := by
  simp only [Host.Core.run]
  rw [show Sys2Proof.core.step s = step s from rfl, h]

theorem run_add {m : Nat} {s t : State} (h : Sys2Proof.core.run m s = .next t) (n : Nat) :
    Sys2Proof.core.run (m + n) s = Sys2Proof.core.run n t := by
  induction m generalizing s with
  | zero =>
    obtain rfl : s = t := Host.Outcome.next.inj h
    rw [Nat.zero_add]
  | succ m ih =>
    obtain ⟨u, hstep, hrun⟩ := run_succ_eq_next h
    rw [Nat.add_right_comm, run_succ hstep, ih hrun]

/-- A pending encoded operation of the port, from an agent that may issue it, is run. -/
theorem step_of_encoded {s : State} {a : Agent} {i : Instr} {rest : List Transaction} (hc : s.cfg.wellFormed = true)
    (hp : s.port = ⟨a, encode i⟩ :: rest) (hi : i.format ≠ .internal) (ha : a ∈ issuers i) :
    step s = .next (effect i (s.take ⟨a, encode i⟩ rest)) :=
  (step_of_accept_ok hp (accept_of_decode_ok hc (decodeOfEncode i) hi)).trans (exec_of_issuer ha)

/-- The state in which the TXSTEP of a TICK runs: the register is empty, the TICK is off the port. -/
def State.ticked (rest : List Transaction) (s : State) : State :=
  (s.take ⟨.uart, encode .txdone⟩ (⟨.consumer, encode .txstep⟩ :: rest)).registerDone.take
    ⟨.consumer, encode .txstep⟩ rest

theorem ticked_eq (rest : List Transaction) (s : State) :
    s.ticked rest = { s with regEmpty := true, agent := .consumer, port := rest, resp := 0, result := .ok } := rfl

theorem State.Inv.ticked {s : State} (h : s.Inv) (rest : List Transaction) : (s.ticked rest).Inv :=
  ((h.take _ _).registerDone).take _ _

/-- A TICK is a transmit step with the register empty (R101). -/
theorem run_tick {s : State} {rest : List Transaction} (hc : s.cfg.wellFormed = true) (he : s.cfg.traceEnabled = true)
    (hp : s.port = tickOps ++ rest) : Sys2Proof.core.run 2 s = .next (s.ticked rest).transmitStep := by
  have hdone := step_of_encoded hc hp (i := .txdone) (by decide) (by decide)
  have hstep : step (s.take ⟨.uart, encode .txdone⟩ (⟨.consumer, encode .txstep⟩ :: rest)).registerDone =
      .next (effect .txstep (s.ticked rest)) :=
    step_of_encoded hc rfl (by decide) (by decide)
  have hon : effect .txstep (s.ticked rest) = (s.ticked rest).transmitStep := whenEnabled_on (s := s.ticked rest) he _
  calc
    Sys2Proof.core.run 2 s
      = Sys2Proof.core.run 1 (s.take ⟨.uart, encode .txdone⟩ (⟨.consumer, encode .txstep⟩ :: rest)).registerDone :=
        run_succ hdone 1
    _ = .next (s.ticked rest).transmitStep := by rw [run_succ hstep, hon, run_zero]

theorem transmitStep_port {s : State} (he : s.cfg.traceEnabled = true) : s.transmitStep.port = s.port := by
  obtain ⟨-, -, hport⟩ := effect_fixed .txstep s
  rwa [effect, whenEnabled_on he] at hport

/-- A TICK in a state with bytes to send sends the next one. -/
theorem State.Inv.ticked_sends {s : State} (h : s.Inv) (hsend : 0 < s.toSend) (rest : List Transaction) :
    ∃ b, s.SendsNext b (s.ticked rest).transmitStep := by
  obtain ⟨b, hb⟩ := (h.ticked rest).transmitStep_sends rfl hsend
  exact ⟨b, hb.inv, hb.cfg, hb.stream, hb.toSend, hb.wire, hb.log, hb.flag⟩

/-- What sending a byte leaves in the log, for each byte of a list. -/
def sendEntries (bs : List Byte) : List Event := bs.flatMap fun b => [.tx b, .ieEn]

/-- `t` is `s` with its whole stream sent and logged. -/
structure State.SendsAll (s t : State) : Prop where
  inv : t.Inv
  cfg : t.cfg = s.cfg
  stream : t.stream = s.stream
  toSend : t.toSend = 0
  log : t.log = s.log ++ sendEntries (s.stream.drop s.wire.length)
  flag : 0 < s.toSend ∨ s.txState = true → t.txState = true

theorem State.SendsAll.cursor {s t : State} (h : s.SendsAll t) : t.cur.val = 8 ∧ t.depth.toNat = 0 :=
  (toSend_eq_zero_iff t).mp h.toSend

theorem State.SendsAll.drained {s t : State} (h : s.SendsAll t) : t.drained :=
  ⟨BitVec.eq_of_toNat_eq h.cursor.2, Fin.ext h.cursor.1⟩

theorem State.SendsAll.wire {s t : State} (h : s.SendsAll t) : t.wire = s.stream :=
  (stream_of_drained h.cursor.1 h.cursor.2).symm.trans h.stream

/-- With nothing to send the stream is already on the wire. -/
theorem State.Inv.sendsAll_of_drained {s : State} (h : s.Inv) (h0 : s.toSend = 0) : s.SendsAll s := by
  obtain ⟨hc, hd⟩ := (toSend_eq_zero_iff s).mp h0
  have hlog : s.log = s.log ++ sendEntries (s.stream.drop s.wire.length) := by
    simp [stream_of_drained hc hd, sendEntries]
  exact ⟨h, rfl, rfl, h0, hlog, fun hflag => hflag.resolve_left (by omega)⟩

/-- Sending the next byte and then all others sends all. -/
theorem State.SendsNext.sendsAll {s u t : State} {b : Byte} (h : s.SendsNext b u) (ht : u.SendsAll t) : s.SendsAll t where
  inv := ht.inv
  cfg := ht.cfg.trans h.cfg
  stream := ht.stream.trans h.stream
  toSend := ht.toSend
  log := by
    obtain ⟨l, hl⟩ := stream_eq_wire_append u
    rw [ht.log, h.log, ← h.stream, hl, h.wire]
    simp [sendEntries]
  flag := fun _ => ht.flag (.inr h.flag)

/-- One TICK for each byte to send sends the stream. -/
theorem run_ticks {n : Nat} {s : State} {rest : List Transaction} (h : s.Inv) (he : s.cfg.traceEnabled = true)
    (hn : s.toSend = n) (hp : s.port = ticksOps n ++ rest) :
    ∃ t, Sys2Proof.core.run (2 * n) s = .next t ∧ s.SendsAll t ∧ t.port = rest := by
  induction n generalizing s with
  | zero => exact ⟨s, run_zero s, h.sendsAll_of_drained hn, hp⟩
  | succ n ih =>
    rw [ticksOps_succ, List.append_assoc] at hp
    obtain ⟨b, hb⟩ := h.ticked_sends (hn.trans_gt (Nat.succ_pos n)) (ticksOps n ++ rest)
    obtain ⟨t, hrun, hall, hport⟩ := ih hb.inv ((congrArg Config.traceEnabled hb.cfg).trans he)
      (Nat.succ.inj (hb.toSend.trans hn)) (transmitStep_port he)
    refine ⟨t, ?_, hb.sendsAll hall, hport⟩
    rw [show 2 * (n + 1) = 2 + 2 * n by omega, run_add (run_tick h.config he hp), hrun]

/-- The TICK after that goes idle: the register is empty and there is nothing to send (R175). -/
theorem transmitStep_ticked_of_drained {s : State} (hc : s.cur.val = 8) (h0 : s.depth.toNat = 0) (rest : List Transaction) :
    (s.ticked rest).transmitStep =
      { s with
        log := s.log ++ [.ieDis]
        regEmpty := true
        ie := false
        txState := false
        agent := .consumer
        port := rest
        resp := 0
        result := .ok } := by
  have hidle : (s.ticked rest).transmitStep = (s.ticked rest).goIdle := transmitStep_drained rfl hc h0
  rw [hidle, ticked_eq, goIdle_eq]

/-- Settles O46: `run_ticks`, and for the TICK after it the Idle path. -/
theorem ticksSendTheWholeStream : Obligations.TicksSendTheWholeStream := by
  intro s rest n h he hn
  refine ⟨fun hp => ?sends, fun hp => ?idles⟩
  case sends =>
    obtain ⟨t, hrun, hall, hport⟩ := run_ticks h he hn.symm hp
    exact ⟨t, hrun, hall.wire, hall.drained, hport, hall.log, fun hpos => hall.flag (.inl (hpos.trans_eq hn))⟩
  case idles =>
    rw [ticksOps_succ', List.append_assoc] at hp
    obtain ⟨t, hrun, hall, hport⟩ := run_ticks h he hn.symm hp
    obtain ⟨hc, h0⟩ := hall.cursor
    have hwire := hall.wire
    have hdrained := hall.drained
    have hidle := run_tick hall.inv.config ((congrArg Config.traceEnabled hall.cfg).trans he) hport
    rw [transmitStep_ticked_of_drained hc h0, hall.log] at hidle
    exact ⟨_, (run_add hrun 2).trans hidle, hwire, hdrained, rfl, rfl, rfl, rfl, rfl⟩

/-! ### The kick -/

/-- Settles O47: the head slot is written, REFILL builds its frame and TXSTEP sends the first byte of that. -/
theorem kickSendsTheFirstWaitingWord : Obligations.KickSendsTheFirstWaitingWord := by
  intro s h ha he hempty hc h0
  have h8 : s.cur.val = 8 := congrArg Fin.val hc
  obtain ⟨w, hr⟩ := h.queueInv.head h0
  refine ⟨w, (s.dequeue.loadFrame w).sendByte, ?step, ?queue⟩
  case step =>
    rw [exec_txstep_of_consumer ha he, transmitStep_builds hempty h8 h0 h.depth hr]
  case queue =>
    rw [loadFrame_sendByte_eq]
    exact ⟨queued_eq_cons h0 hr, rfl, unsent_of_written (f := wireFrame s.cfg w) rfl, rfl, rfl⟩

end Sys2Proof.Machine
end

section
/-! PROOFS. PUSH and TXSTEP commute while the queue holds a word and has room (R61). -/

namespace Sys2Proof.Machine

theorem toSend_pos_of_waiting {s : State} (h0 : 0 < s.depth.toNat) : 0 < s.toSend :=
  Nat.add_pos_right _ (Nat.mul_pos (Nat.succ_pos 7) h0)

/-- An accepted PUSH behind a waiting head does not change what REFILL finds. -/
theorem refillFrame_accepted {s u : State} {n : Nat} (h : s.QueueInv) (h0 : 0 < s.depth.toNat)
    (hroom : s.depth.toNat < s.cfg.capacity) (hn : 0 < n) (hr : s.refillFrame = .ok (n, u)) (w v : Word) :
    ∃ m, 0 < m ∧ ((s.enqueue w).respond v).refillFrame = .ok (m, (u.enqueue w).respond v) := by
  rcases refillFrame_ok_pos hr hn with ⟨hc, rfl⟩ | ⟨head, hc, -, hhead, rfl⟩
  · exact ⟨_, Nat.sub_pos_of_lt hc, refillFrame_undrained hc⟩
  · have hdepth := enqueue_depth h.config hroom w
    have hhead' : Memory.read (s.enqueue w).mem (slotOf s.cfg s.ri) = some head := by
      rw [slotOf_ri] at hhead ⊢
      rw [enqueue_read_waiting h.config hroom w h0, hhead]
    exact ⟨8, Nat.succ_pos 7, refillFrame_builds hc (hdepth.trans_gt (Nat.succ_pos _)) (hdepth.trans_le hroom) hhead'⟩

/-- Sending a byte does not touch what PUSH writes, but for the response. -/
theorem State.Loaded.sendByte_accepted {u : State} (h : u.Loaded) (w v : Word) :
    ((u.enqueue w).respond v).sendByte = u.sendByte.enqueue w := by
  obtain ⟨b, hb, hsend⟩ := h.sendByte
  have hbyte : bufByte u.buf u.cur = some b := (bufByte_eq_get u.buf h.cursor).trans hb
  rw [hsend, sendByte_eq (s := (u.enqueue w).respond v) hbyte]
  rfl

/-- The transmit step after an accepted PUSH is the transmit step with the word appended to what it leaves. -/
theorem State.Inv.transmitStep_accepted {s : State} (h : s.Inv) (h0 : 0 < s.depth.toNat)
    (hroom : s.depth.toNat < s.cfg.capacity) (w v : Word) :
    ((s.enqueue w).respond v).transmitStep = s.transmitStep.enqueue w := by
  cases hempty : s.regEmpty with
  | false =>
    rw [transmitStep_busy hempty, transmitStep_busy (s := (s.enqueue w).respond v) hempty]
    rfl
  | true =>
    obtain ⟨n, u, hn, hr⟩ := h.refillFrame_pos (toSend_pos_of_waiting h0)
    obtain ⟨m, hm, hr'⟩ := refillFrame_accepted h.queueInv h0 hroom hn hr w v
    rw [transmitStep_of_refillFrame hempty hr, transmitStep_of_refillFrame (s := (s.enqueue w).respond v) hempty hr',
      if_pos hn, if_pos hm, (h.loaded hr hn).sendByte_accepted]

/-- With a word waiting the transmit step ends well, answers 0 and does not raise the depth. -/
theorem State.Inv.transmitStep_waiting {s : State} (h : s.Inv) (h0 : 0 < s.depth.toNat) :
    s.transmitStep.result = .ok ∧ s.transmitStep.cfg = s.cfg ∧ s.transmitStep.depth.toNat ≤ s.depth.toNat := by
  cases hempty : s.regEmpty with
  | false =>
    rw [transmitStep_busy hempty]
    exact ⟨rfl, rfl, le_rfl⟩
  | true =>
    obtain ⟨n, u, hn, hr⟩ := h.refillFrame_pos (toSend_pos_of_waiting h0)
    obtain ⟨b, k, hsend⟩ := sendByte_eq_of_some_byte u
    have hcfg : u.cfg = s.cfg := by rw [refillFrame_fixed hr hn]
    have hle := refillFrame_depth_le hr hn
    rw [transmitStep_of_refillFrame hempty hr, if_pos hn, hsend]
    exact ⟨rfl, hcfg, hle⟩

/-- After an operation that ended well an accepted PUSH changes the agent, the response and the queue. -/
theorem enqueue_respond_of_ok {x : State} (h : x.result = .ok) (a : Agent) (w v : Word) :
    (State.enqueue w { x with agent := a }).respond v = { x.enqueue w with agent := a, resp := v } := by
  cases x
  cases h
  rfl

/-- Settles O50: both orders append the word to what the transmit step leaves. -/
theorem pushAndTxstepCommute : Obligations.PushAndTxstepCommute := by
  intro w s h he h0 hroom
  have hc : State.Inv { s with agent := .consumer } := h.congr rfl
  obtain ⟨hok, hcfg, hdepth⟩ := hc.transmitStep_waiting h0
  have hcommute := hc.transmitStep_accepted h0 hroom w 1
  generalize hx : State.transmitStep { s with agent := .consumer } = x at hok hcfg hdepth hcommute
  refine ⟨(State.enqueue w { s with agent := .producer }).respond 1, x.enqueue w, x,
    (State.enqueue w { x with agent := .producer }).respond 1, ?accepted, ?pushFirst,
    ?txstepFirst, ?pushSecond, rfl, rfl, (enqueue_respond_of_ok hok .producer w 1).symm⟩
  case accepted => exact exec_push_accepted (s := { s with agent := .producer }) rfl he hroom w
  case pushFirst =>
    have hpush := exec_txstep_of_consumer (s := (State.enqueue w { s with agent := .consumer }).respond 1) rfl he
    exact hpush.trans (congrArg _ hcommute)
  case txstepFirst =>
    exact (exec_txstep_of_consumer (s := { s with agent := .consumer }) rfl he).trans (congrArg _ hx)
  case pushSecond =>
    refine exec_push_accepted (s := { x with agent := .producer }) rfl ((congrArg Config.traceEnabled hcfg).trans he) ?_ w
    exact hdepth.trans_lt (hroom.trans_eq (congrArg Config.capacity hcfg).symm)

end Sys2Proof.Machine
end

section
/-! PROOFS. Idle convergence under the interrupt-driven driver (R184, R209, R245): the first TXSTEP that finds the
register empty goes idle and masks the interrupt, before it and after it the block is silent. -/

namespace Sys2Proof.Machine

/-! ### Runs, a step at a time -/

theorem along_succ_iff {P : State → Prop} {n : Nat} {s u : State} (h : step s = .next u) :
    State.along P (n + 1) s ↔ P s ∧ State.along P n u := by
  simp only [State.along, h]

theorem interruptDrivenRun_succ_iff {n : Nat} {k : Kicks} {s u : State} (h : step s = .next u) :
    State.interruptDrivenRun (n + 1) k s ↔ s.interruptDriven k ∧ State.interruptDrivenRun n (k.after s u) u := by
  simp only [State.interruptDrivenRun, h]

/-- The next step serves no PUSH, IEON or RESET. -/
def State.undisturbed (s : State) : Prop :=
  (∀ w, s.served ≠ some (.push w)) ∧ s.served ≠ some .ieon ∧ s.served ≠ some .reset

/-- The next step serves no TXSTEP that finds the register empty. -/
def State.notReady (s : State) : Prop := s.served = some .txstep → s.regEmpty = false

/-- With no kick asked for and no PUSH, no kick comes to be asked for. -/
theorem after_none {s u : State} (h : s.undisturbed) : Kicks.none.after s u = Kicks.none := by
  obtain ⟨hpush, hieon, -⟩ := h
  cases hs : s.served with
  | none => simp [Kicks.after, hs]
  | some i =>
    cases i with
    | push w => exact absurd hs (hpush w)
    | ieon => exact absurd hs hieon
    | txstep | status => simp [Kicks.after, hs, Kicks.none]
    | depth | txdone | reset | refill | pop => simp [Kicks.after, hs]

/-! ### After the idle step: masked and silent -/

/-- Along a run of the driver, a masked block stays masked and silent, and its flag stays. -/
theorem run_of_masked {n : Nat} {s t : State} (hie : s.ie = false) (hdriver : State.interruptDrivenRun n Kicks.none s)
    (hrest : State.along State.undisturbed n s) (hrun : Sys2Proof.core.run n s = .next t) :
    t.wire = s.wire ∧ t.log = s.log ∧ t.txState = s.txState ∧ t.ie = false := by
  induction n generalizing s with
  | zero =>
    obtain rfl : s = t := Host.Outcome.next.inj hrun
    exact ⟨rfl, rfl, rfl, hie⟩
  | succ n ih =>
    obtain ⟨u, hstep, hrun⟩ := run_succ_eq_next hrun
    obtain ⟨hnow, hdriver⟩ := (interruptDrivenRun_succ_iff hstep).mp hdriver
    obtain ⟨hquiet, hrest⟩ := (along_succ_iff hstep).mp hrest
    rw [after_none hquiet] at hdriver
    obtain ⟨-, hieon, hreset⟩ := hquiet
    obtain ⟨hmasked, -, hwire, hlog⟩ := maskedBlockStaysSilent s u Kicks.none hie rfl hnow hieon hstep
    have htxstep := served_ne_txstep_of_masked hie rfl hnow
    obtain ⟨-, -, -, hcontext, -⟩ := onlyItsWritersChangeState s u hstep
    obtain ⟨-, -, -, hflag⟩ := hcontext.resolve_right (not_or.mpr ⟨htxstep, hreset⟩)
    obtain ⟨hwire', hlog', hflag', hie'⟩ := ih hmasked hdriver hrest hrun
    exact ⟨hwire'.trans hwire, hlog'.trans hlog, hflag'.trans hflag, hie'⟩

/-! ### Until the idle step -/

/-- Sending, with the last byte sent and nothing waiting, on an enabled block in a state of the invariant. -/
structure State.Finishing (s : State) : Prop where
  inv : s.Inv
  enabled : s.cfg.traceEnabled = true
  cursor : s.cur.val = 8
  depth : s.depth.toNat = 0
  sending : s.txState = true

/-- A step of a finishing block that serves no TXSTEP with the register empty leaves it finishing, and silent. -/
theorem State.Finishing.step_notReady {s u : State} (h : s.Finishing) (hquiet : s.undisturbed) (hwait : s.notReady)
    (hstep : step s = .next u) : u.Finishing ∧ u.wire = s.wire ∧ u.log = s.log := by
  have hinv := stepKeepsTheInvariant s u h.inv hstep
  by_cases hs : s.served = some .txstep
  · obtain ⟨x, rest, ⟨-, rfl⟩ | ⟨hempty, -⟩ | ⟨n, v, hempty, -⟩⟩ := h.inv.step_txstep h.enabled hs hstep
    · exact ⟨⟨hinv, h.enabled, h.cursor, h.depth, h.sending⟩, rfl, rfl⟩
    · exact absurd hempty (ne_true_of_eq_false (hwait hs))
    · exact absurd hempty (ne_true_of_eq_false (hwait hs))
  · obtain ⟨hpush, -, hreset⟩ := hquiet
    obtain ⟨hcfg, hwi, -, hcontext, -, -, hsent, -, -⟩ := onlyItsWritersChangeState s u hstep
    obtain ⟨hri, -, hcur, hflag⟩ := hcontext.resolve_right (not_or.mpr ⟨hs, hreset⟩)
    have hwi : u.wi = s.wi := hwi.resolve_right (not_or.mpr ⟨fun ⟨w, hw⟩ => hpush w hw, hreset⟩)
    have hdepth : u.depth = s.depth := by rw [State.depth, hwi, hri, State.depth]
    exact ⟨⟨hinv, (congrArg Config.traceEnabled hcfg).trans h.enabled, (congrArg Fin.val hcur).trans h.cursor,
      (congrArg BitVec.toNat hdepth).trans h.depth, hflag.trans h.sending⟩, hsent.resolve_right hs⟩

/-- The TXSTEP that finds the register empty takes the Idle path: it sends nothing, logs one `IE_DIS` and masks the
interrupt. -/
theorem State.Finishing.step_ready {s u : State} (h : s.Finishing) (hready : ¬ s.notReady) (hstep : step s = .next u) :
    u.wire = s.wire ∧ u.log = s.log ++ [.ieDis] ∧ u.txState = false ∧ u.ie = false := by
  obtain ⟨hs, hempty⟩ := Classical.not_imp.mp hready
  obtain ⟨x, rest, ⟨hbusy, -⟩ | ⟨-, -, -, rfl⟩ | ⟨n, v, -, hn, hr, -⟩⟩ := h.inv.step_txstep h.enabled hs hstep
  · exact absurd hbusy hempty
  · exact ⟨rfl, rfl, rfl, rfl⟩
  · rcases refillFrame_ok_pos hr hn with ⟨hc, -⟩ | ⟨w, -, h0, -⟩
    · exact absurd h.cursor hc.ne
    · exact absurd h.depth h0.ne'

/-- Along a run of the driver a step either leaves the block finishing and silent, or is the idle step, after which
`run_of_masked` speaks for the rest. -/
theorem State.Finishing.run {n : Nat} {s t : State} (h : s.Finishing)
    (hdriver : State.interruptDrivenRun n Kicks.none s) (hrest : State.along State.undisturbed n s)
    (hrun : Sys2Proof.core.run n s = .next t) :
    t.wire = s.wire ∧
    (State.along State.notReady n s → t.log = s.log ∧ t.txState = true ∧ t.ie = true) ∧
    (¬ State.along State.notReady n s →
      t.log = s.log ++ [.ieDis] ∧ t.txState = false ∧ t.ie = false ∧ t.irqPending = false) := by
  induction n generalizing s with
  | zero =>
    obtain rfl : s = t := Host.Outcome.next.inj hrun
    exact ⟨rfl, fun _ => ⟨rfl, h.sending, h.inv.paired h.sending⟩, fun hnot => absurd trivial hnot⟩
  | succ n ih =>
    obtain ⟨u, hstep, hrun⟩ := run_succ_eq_next hrun
    obtain ⟨-, hdriver⟩ := (interruptDrivenRun_succ_iff hstep).mp hdriver
    obtain ⟨hquiet, hrest⟩ := (along_succ_iff hstep).mp hrest
    rw [after_none hquiet] at hdriver
    rw [along_succ_iff hstep]
    by_cases hwait : s.notReady
    · obtain ⟨hu, hwire, hlog⟩ := h.step_notReady hquiet hwait hstep
      obtain ⟨hwire', hbefore, hafter⟩ := ih hu hdriver hrest hrun
      rw [hlog] at hbefore hafter
      exact ⟨hwire'.trans hwire, fun hall => hbefore hall.2, fun hnot => hafter fun hall => hnot ⟨hwait, hall⟩⟩
    · obtain ⟨hwire, hlog, hidle, hmasked⟩ := h.step_ready hwait hstep
      obtain ⟨hwire', hlog', hflag', hie'⟩ := run_of_masked hmasked hdriver hrest hrun
      exact ⟨hwire'.trans hwire, fun hall => absurd hall.1 hwait,
        fun _ => ⟨hlog'.trans hlog, hflag'.trans hidle, hie', by simp [State.irqPending, hie']⟩⟩

/-- Settles O49: the premises say that the block is finishing, and `State.Finishing.run` is the rest. -/
theorem idleConvergence : Obligations.IdleConvergence :=
  fun _ _ _ hinv he hc h0 hflag => State.Finishing.run ⟨hinv, he, hc, h0, hflag⟩

end Sys2Proof.Machine
end
